-- ==== Sys2Proof/Word.lean ====
section
/-! DEFINITION. The plain data the layers share: bytes, registers of eight, the bit cursor's value,
the failure outcomes and frame classes of the spec, and the head of a frame. -/

namespace Sys2Proof

/-- One byte, `b[7:0]` of rule R10 (bit `b[i]` is `getLsbD i`). -/
abbrev Byte := BitVec 8

/-- Eight things in order: the eight character codes of an identification frame (R86) and the
register file `R_CS[0..7]` (R30). -/
structure Eight (α : Type) where
  c0 : α
  c1 : α
  c2 : α
  c3 : α
  c4 : α
  c5 : α
  c6 : α
  c7 : α
  deriving DecidableEq, Repr

/-- The eight in order, index 0 first. -/
def Eight.toList {α : Type} (e : Eight α) : List α :=
  [e.c0, e.c1, e.c2, e.c3, e.c4, e.c5, e.c6, e.c7]

/-- The same value eight times, `v × 8` of rule R175. -/
def Eight.fill {α : Type} (v : α) : Eight α := ⟨v, v, v, v, v, v, v, v⟩

/-- One function applied to each of the eight. -/
def Eight.map {α β : Type} (f : α → β) (e : Eight α) : Eight β :=
  ⟨f e.c0, f e.c1, f e.c2, f e.c3, f e.c4, f e.c5, f e.c6, f e.c7⟩

/-- The bit cursor `CUR = (byte, off)` (R23, R110): `off` in 0..7 counts from the most significant
bit of the current byte. -/
structure Cursor where
  byte : Nat
  off  : Fin 8
  deriving DecidableEq, Repr

/-- The failure outcomes of DECODE (R225): the block's synchronous exceptions. -/
inductive Failure where
  /-- The marker bytes did not match (R227). -/
  | notAFrame
  /-- The downlink format is not in {17, 18} (R228). -/
  | badDf
  /-- Fewer bits are left than the field needs, or `R_LEN < 16` (R233). -/
  | exhausted
  /-- The cursor is not on a byte boundary at a named point (R234). -/
  | misalign
  deriving DecidableEq, Repr

/-- The four frame classes of the dispatch (R141). -/
inductive FrameClass where
  | ident
  | baro
  | gnss
  | unknown
  deriving DecidableEq, Repr

/-- The fields of the common prefix (R81) that the row does not fix: timestamp and signal level
(opaque, discarded), capability and address. -/
structure Head where
  ts   : BitVec 48
  sig  : BitVec 8
  ca   : BitVec 3
  addr : BitVec 24
  deriving DecidableEq, Repr

/-- A whole frame in the mnemonic form of rule R103, with the class the mnemonic names:
`IDENT df, ca, addr, tc, cat, c1 .. c8`, `BARO` and `GNSS df, ca, addr, tc, ss, saf, alt`,
`UNKNOWN df, ca, addr, tc, low3`; the head holds `ca`, `addr` and the optional `ts` and `sig`. -/
inductive FrameText where
  | ident   (df tc : BitVec 5) (h : Head) (cat : BitVec 3) (codes : Eight (BitVec 6))
  | baro    (df tc : BitVec 5) (h : Head) (ss : BitVec 2) (saf : BitVec 1) (alt : BitVec 12)
  | gnss    (df tc : BitVec 5) (h : Head) (ss : BitVec 2) (saf : BitVec 1) (alt : BitVec 12)
  | unknown (df tc : BitVec 5) (h : Head) (low3 : BitVec 3)
  deriving DecidableEq, Repr

end Sys2Proof
end

