-- ==== Sys2Proof/Config.lean ====
section
/-! DEFINITION. The implementation parameters of rule R9: the constants the spec fixes, and the
open parameters and free choices as constants with no body. -/

namespace Sys2Proof.Config

/-- `SYNC0`, first marker byte (R9). -/
def sync0 : Byte := 0x1A
/-- `SYNC1`, second marker byte (R9). -/
def sync1 : Byte := 0x33
/-- `MIN_LEN`, the length HDR requires (R9, R121). -/
def minLen : Nat := 16
/-- `LEN_UNKNOWN`, bytes an UNKNOWN frame needs (R88). -/
def lenUnknown : Nat := 14
/-- `LEN_ALT`, bytes a BARO or GNSS frame needs (R88). -/
def lenAlt : Nat := 16
/-- `LEN_IDENT`, bytes an IDENT frame needs (R88). -/
def lenIdent : Nat := 20
/-- `TABLE_CAP`: 2^24, one entry per possible address (R9, R191). -/
def tableCap : Nat := 2 ^ 24

/-- What `BUF_CAP` has beyond 20 bytes: open (R9, D3), so a constant with no body. -/
opaque bufCapExtra : Nat
/-- `BUF_CAP`, the capacity of the frame buffer (R21). The spec leaves it open.
DEDUCED (log entry 3): at least 20, because the spec's 20-byte example frame is loaded. -/
def bufCap : Nat := bufCapExtra + 20

/-- Free choice of RENDER (R199): the rank that the `k`-th RENDER gives an address among visible
entries of equal altitude. No body: every arrangement of ties stays possible (log entry 5). -/
opaque tieRank : Nat → BitVec 24 → Nat

/-- `UNIT_SUFFIX`, open (R200): the text after a non-zero altitude. -/
opaque unitSuffix : List Byte
/-- `EOL`, open (R200): the line terminator. -/
opaque eol : List Byte
/-- `HEADER_WHEN_EMPTY`, open (R200): whether the header line stands in a report of no records. -/
opaque headerWhenEmpty : Bool

end Sys2Proof.Config
end

