-- ==== Sys2Proof/Syntax.lean ====
section
/-! DEFINITION. The instructions: one constructor per row of spec/opcode_table.json. A row is an
accepted pair of downlink format and type code (R97); its operands are the bits of the 112-bit
word that the row's mask leaves free. -/

namespace Sys2Proof

/-- A received frame's opcode word, frame bytes 0 to 13 (R80, R97). `h` holds the free fields of
the common prefix; `low3` is `FB[13][2:0]`: the aircraft category of an IDENT frame (R86), the
surveillance status and single-antenna flag of a BARO or GNSS frame (R87), unread in an UNKNOWN
frame (R89). The payload after byte 13 is read from the frame buffer by the meaning. -/
inductive Instr where
  /-- `UNKNOWN.DF17.TC0` -/
  | unknownDf17Tc0 (h : Head) (low3 : BitVec 3)
  /-- `IDENT.DF17.TC1` -/
  | identDf17Tc1 (h : Head) (low3 : BitVec 3)
  /-- `IDENT.DF17.TC2` -/
  | identDf17Tc2 (h : Head) (low3 : BitVec 3)
  /-- `IDENT.DF17.TC3` -/
  | identDf17Tc3 (h : Head) (low3 : BitVec 3)
  /-- `IDENT.DF17.TC4` -/
  | identDf17Tc4 (h : Head) (low3 : BitVec 3)
  /-- `UNKNOWN.DF17.TC5` -/
  | unknownDf17Tc5 (h : Head) (low3 : BitVec 3)
  /-- `UNKNOWN.DF17.TC6` -/
  | unknownDf17Tc6 (h : Head) (low3 : BitVec 3)
  /-- `UNKNOWN.DF17.TC7` -/
  | unknownDf17Tc7 (h : Head) (low3 : BitVec 3)
  /-- `UNKNOWN.DF17.TC8` -/
  | unknownDf17Tc8 (h : Head) (low3 : BitVec 3)
  /-- `BARO.DF17.TC9` -/
  | baroDf17Tc9 (h : Head) (low3 : BitVec 3)
  /-- `BARO.DF17.TC10` -/
  | baroDf17Tc10 (h : Head) (low3 : BitVec 3)
  /-- `BARO.DF17.TC11` -/
  | baroDf17Tc11 (h : Head) (low3 : BitVec 3)
  /-- `BARO.DF17.TC12` -/
  | baroDf17Tc12 (h : Head) (low3 : BitVec 3)
  /-- `BARO.DF17.TC13` -/
  | baroDf17Tc13 (h : Head) (low3 : BitVec 3)
  /-- `BARO.DF17.TC14` -/
  | baroDf17Tc14 (h : Head) (low3 : BitVec 3)
  /-- `BARO.DF17.TC15` -/
  | baroDf17Tc15 (h : Head) (low3 : BitVec 3)
  /-- `BARO.DF17.TC16` -/
  | baroDf17Tc16 (h : Head) (low3 : BitVec 3)
  /-- `BARO.DF17.TC17` -/
  | baroDf17Tc17 (h : Head) (low3 : BitVec 3)
  /-- `BARO.DF17.TC18` -/
  | baroDf17Tc18 (h : Head) (low3 : BitVec 3)
  /-- `UNKNOWN.DF17.TC19` -/
  | unknownDf17Tc19 (h : Head) (low3 : BitVec 3)
  /-- `GNSS.DF17.TC20` -/
  | gnssDf17Tc20 (h : Head) (low3 : BitVec 3)
  /-- `GNSS.DF17.TC21` -/
  | gnssDf17Tc21 (h : Head) (low3 : BitVec 3)
  /-- `GNSS.DF17.TC22` -/
  | gnssDf17Tc22 (h : Head) (low3 : BitVec 3)
  /-- `UNKNOWN.DF17.TC23` -/
  | unknownDf17Tc23 (h : Head) (low3 : BitVec 3)
  /-- `UNKNOWN.DF17.TC24` -/
  | unknownDf17Tc24 (h : Head) (low3 : BitVec 3)
  /-- `UNKNOWN.DF17.TC25` -/
  | unknownDf17Tc25 (h : Head) (low3 : BitVec 3)
  /-- `UNKNOWN.DF17.TC26` -/
  | unknownDf17Tc26 (h : Head) (low3 : BitVec 3)
  /-- `UNKNOWN.DF17.TC27` -/
  | unknownDf17Tc27 (h : Head) (low3 : BitVec 3)
  /-- `UNKNOWN.DF17.TC28` -/
  | unknownDf17Tc28 (h : Head) (low3 : BitVec 3)
  /-- `UNKNOWN.DF17.TC29` -/
  | unknownDf17Tc29 (h : Head) (low3 : BitVec 3)
  /-- `UNKNOWN.DF17.TC30` -/
  | unknownDf17Tc30 (h : Head) (low3 : BitVec 3)
  /-- `UNKNOWN.DF17.TC31` -/
  | unknownDf17Tc31 (h : Head) (low3 : BitVec 3)
  /-- `UNKNOWN.DF18.TC0` -/
  | unknownDf18Tc0 (h : Head) (low3 : BitVec 3)
  /-- `IDENT.DF18.TC1` -/
  | identDf18Tc1 (h : Head) (low3 : BitVec 3)
  /-- `IDENT.DF18.TC2` -/
  | identDf18Tc2 (h : Head) (low3 : BitVec 3)
  /-- `IDENT.DF18.TC3` -/
  | identDf18Tc3 (h : Head) (low3 : BitVec 3)
  /-- `IDENT.DF18.TC4` -/
  | identDf18Tc4 (h : Head) (low3 : BitVec 3)
  /-- `UNKNOWN.DF18.TC5` -/
  | unknownDf18Tc5 (h : Head) (low3 : BitVec 3)
  /-- `UNKNOWN.DF18.TC6` -/
  | unknownDf18Tc6 (h : Head) (low3 : BitVec 3)
  /-- `UNKNOWN.DF18.TC7` -/
  | unknownDf18Tc7 (h : Head) (low3 : BitVec 3)
  /-- `UNKNOWN.DF18.TC8` -/
  | unknownDf18Tc8 (h : Head) (low3 : BitVec 3)
  /-- `BARO.DF18.TC9` -/
  | baroDf18Tc9 (h : Head) (low3 : BitVec 3)
  /-- `BARO.DF18.TC10` -/
  | baroDf18Tc10 (h : Head) (low3 : BitVec 3)
  /-- `BARO.DF18.TC11` -/
  | baroDf18Tc11 (h : Head) (low3 : BitVec 3)
  /-- `BARO.DF18.TC12` -/
  | baroDf18Tc12 (h : Head) (low3 : BitVec 3)
  /-- `BARO.DF18.TC13` -/
  | baroDf18Tc13 (h : Head) (low3 : BitVec 3)
  /-- `BARO.DF18.TC14` -/
  | baroDf18Tc14 (h : Head) (low3 : BitVec 3)
  /-- `BARO.DF18.TC15` -/
  | baroDf18Tc15 (h : Head) (low3 : BitVec 3)
  /-- `BARO.DF18.TC16` -/
  | baroDf18Tc16 (h : Head) (low3 : BitVec 3)
  /-- `BARO.DF18.TC17` -/
  | baroDf18Tc17 (h : Head) (low3 : BitVec 3)
  /-- `BARO.DF18.TC18` -/
  | baroDf18Tc18 (h : Head) (low3 : BitVec 3)
  /-- `UNKNOWN.DF18.TC19` -/
  | unknownDf18Tc19 (h : Head) (low3 : BitVec 3)
  /-- `GNSS.DF18.TC20` -/
  | gnssDf18Tc20 (h : Head) (low3 : BitVec 3)
  /-- `GNSS.DF18.TC21` -/
  | gnssDf18Tc21 (h : Head) (low3 : BitVec 3)
  /-- `GNSS.DF18.TC22` -/
  | gnssDf18Tc22 (h : Head) (low3 : BitVec 3)
  /-- `UNKNOWN.DF18.TC23` -/
  | unknownDf18Tc23 (h : Head) (low3 : BitVec 3)
  /-- `UNKNOWN.DF18.TC24` -/
  | unknownDf18Tc24 (h : Head) (low3 : BitVec 3)
  /-- `UNKNOWN.DF18.TC25` -/
  | unknownDf18Tc25 (h : Head) (low3 : BitVec 3)
  /-- `UNKNOWN.DF18.TC26` -/
  | unknownDf18Tc26 (h : Head) (low3 : BitVec 3)
  /-- `UNKNOWN.DF18.TC27` -/
  | unknownDf18Tc27 (h : Head) (low3 : BitVec 3)
  /-- `UNKNOWN.DF18.TC28` -/
  | unknownDf18Tc28 (h : Head) (low3 : BitVec 3)
  /-- `UNKNOWN.DF18.TC29` -/
  | unknownDf18Tc29 (h : Head) (low3 : BitVec 3)
  /-- `UNKNOWN.DF18.TC30` -/
  | unknownDf18Tc30 (h : Head) (low3 : BitVec 3)
  /-- `UNKNOWN.DF18.TC31` -/
  | unknownDf18Tc31 (h : Head) (low3 : BitVec 3)
  deriving DecidableEq, Repr

end Sys2Proof
end

