-- ==== Sys2Proof/Decode.lean ====
section
/-! DEFINITION. Bit cursor, header matcher, the field extractors of the common prefix and the row
selection: from the bytes of the frame buffer to an instruction or a named failure. After it the
encoder of the opcode word and the assembler of whole frames, both written from the field tables. -/

namespace Sys2Proof

/-! ## Frame bits (R10 to R12) -/

/-- Frame bit `n`: bit `7 - (n mod 8)` of byte `n div 8` (R11). -/
def frameBit (b : List Byte) (n : Nat) : Bool :=
  (b.getD (n / 8) 0).getLsbD (7 - n % 8)

/-- `fbits(n, w)` of rule R12: `w` bits as an unsigned number, frame bit `n` most significant.
The rules use it only where `n + w ≤ 8 * R_LEN`. -/
def fbits (b : List Byte) (n : Nat) : Nat → Nat
  | 0 => 0
  | w + 1 => (frameBit b n).toNat * 2 ^ w + fbits b (n + 1) w

/-- `fbits(n, w)` as a `w`-bit register value. -/
def field (b : List Byte) (n w : Nat) : BitVec w := BitVec.ofNat w (fbits b n w)

/-! ## Bit cursor (R110 to R117) -/

/-- `pos = 8*byte + off` (R110). -/
def Cursor.pos (c : Cursor) : Nat := 8 * c.byte + c.off.val

/-- The cursor at frame bit `p` (R110). -/
def Cursor.ofPos (p : Nat) : Cursor := ⟨p / 8, ⟨p % 8, Nat.mod_lt p (by decide)⟩⟩

/-- What a stage of DECODE gives: a value and the advanced cursor, or `raise X` (R16) with the
cursor where it stood (R116 (c)). -/
inductive Stage (α : Type) where
  | ok (a : α) (c : Cursor)
  | raise (x : Failure) (c : Cursor)
  deriving DecidableEq, Repr

/-- The next stage runs only if this one raised nothing (R174). -/
def Stage.andThen {α β : Type} (r : Stage α) (k : α → Cursor → Stage β) : Stage β :=
  match r with
  | .ok a c => k a c
  | .raise x c => .raise x c

/-- `take(w)` (R111, R112). Widths other than 1 to 32 are no operation of the block (R114). -/
def take (b : List Byte) (w : Nat) (c : Cursor) (_ : 0 < w ∧ w ≤ 32 := by decide) :
    Stage (BitVec w) :=
  if 8 * b.length - c.pos < w then .raise .exhausted c
  else .ok (field b c.pos w) (.ofPos (c.pos + w))

/-- `skip(w)` (R113): `w` bits consumed, nothing returned, the same exhaustion condition. -/
def skip (b : List Byte) (w : Nat) (c : Cursor) (_ : 0 < w ∧ w ≤ 64 := by decide) : Stage Unit :=
  if 8 * b.length - c.pos < w then .raise .exhausted c
  else .ok () (.ofPos (c.pos + w))

/-- `align_check()` (R115). -/
def alignCheck (c : Cursor) : Stage Unit :=
  if c.off.val ≠ 0 then .raise .misalign c else .ok () c

/-! ## Header matcher (R120 to R126) and field extractors (R130 to R134) -/

/-- `HDR` (R124): the length test first, then the markers, then timestamp and signal skipped. -/
def hdr (b : List Byte) (c : Cursor) : Stage Unit :=
  if b.length < Config.minLen then .raise .exhausted c
  else
    (take b 8 c).andThen fun m0 c =>
    (take b 8 c).andThen fun m1 c =>
    if m0 ≠ Config.sync0 ∨ m1 ≠ Config.sync1 then .raise .notAFrame c
    else (skip b 48 c).andThen fun _ c => skip b 8 c

/-- `DFCA` (R130): downlink format and capability, then named point (a). -/
def dfca (b : List Byte) (c : Cursor) : Stage (BitVec 5 × BitVec 3) :=
  (take b 5 c).andThen fun df c =>
  (take b 3 c).andThen fun ca c =>
  (alignCheck c).andThen fun _ c => .ok (df, ca) c

/-- `ICAO` (R132): the 24-bit address, first byte most significant. -/
def icao (b : List Byte) (c : Cursor) : Stage (BitVec 24) := take b 24 c

/-- `TYPECODE` (R134): 5 bits from offset 0 of byte 13 (conflict C1); the cursor stays mid-byte. -/
def typecode (b : List Byte) (c : Cursor) : Stage (BitVec 5) := take b 5 c

/-! ## Classes and rows (R96, R97, R141) -/

/-- `class(tc)` (R141): the ranges in the order they are tried, upper bounds exclusive. -/
def classOf (tc : BitVec 5) : FrameClass :=
  if 1 ≤ tc.toNat ∧ tc.toNat < 5 then .ident
  else if 9 ≤ tc.toNat ∧ tc.toNat < 19 then .baro
  else if 20 ≤ tc.toNat ∧ tc.toNat < 23 then .gnss
  else .unknown

/-- The accepted downlink formats, `DF_ACCEPT` (R9). -/
def dfAccepted (df : BitVec 5) : Bool := df == 17 || df == 18

/-- The rows of downlink format 17, by type code (R96). -/
def rowDf17 (tc : BitVec 5) (h : Head) (low3 : BitVec 3) : Instr :=
  match tc.toNat with
  | 0 => .unknownDf17Tc0 h low3
  | 1 => .identDf17Tc1 h low3
  | 2 => .identDf17Tc2 h low3
  | 3 => .identDf17Tc3 h low3
  | 4 => .identDf17Tc4 h low3
  | 5 => .unknownDf17Tc5 h low3
  | 6 => .unknownDf17Tc6 h low3
  | 7 => .unknownDf17Tc7 h low3
  | 8 => .unknownDf17Tc8 h low3
  | 9 => .baroDf17Tc9 h low3
  | 10 => .baroDf17Tc10 h low3
  | 11 => .baroDf17Tc11 h low3
  | 12 => .baroDf17Tc12 h low3
  | 13 => .baroDf17Tc13 h low3
  | 14 => .baroDf17Tc14 h low3
  | 15 => .baroDf17Tc15 h low3
  | 16 => .baroDf17Tc16 h low3
  | 17 => .baroDf17Tc17 h low3
  | 18 => .baroDf17Tc18 h low3
  | 19 => .unknownDf17Tc19 h low3
  | 20 => .gnssDf17Tc20 h low3
  | 21 => .gnssDf17Tc21 h low3
  | 22 => .gnssDf17Tc22 h low3
  | 23 => .unknownDf17Tc23 h low3
  | 24 => .unknownDf17Tc24 h low3
  | 25 => .unknownDf17Tc25 h low3
  | 26 => .unknownDf17Tc26 h low3
  | 27 => .unknownDf17Tc27 h low3
  | 28 => .unknownDf17Tc28 h low3
  | 29 => .unknownDf17Tc29 h low3
  | 30 => .unknownDf17Tc30 h low3
  | _ => .unknownDf17Tc31 h low3

/-- The rows of downlink format 18, by type code (R96). -/
def rowDf18 (tc : BitVec 5) (h : Head) (low3 : BitVec 3) : Instr :=
  match tc.toNat with
  | 0 => .unknownDf18Tc0 h low3
  | 1 => .identDf18Tc1 h low3
  | 2 => .identDf18Tc2 h low3
  | 3 => .identDf18Tc3 h low3
  | 4 => .identDf18Tc4 h low3
  | 5 => .unknownDf18Tc5 h low3
  | 6 => .unknownDf18Tc6 h low3
  | 7 => .unknownDf18Tc7 h low3
  | 8 => .unknownDf18Tc8 h low3
  | 9 => .baroDf18Tc9 h low3
  | 10 => .baroDf18Tc10 h low3
  | 11 => .baroDf18Tc11 h low3
  | 12 => .baroDf18Tc12 h low3
  | 13 => .baroDf18Tc13 h low3
  | 14 => .baroDf18Tc14 h low3
  | 15 => .baroDf18Tc15 h low3
  | 16 => .baroDf18Tc16 h low3
  | 17 => .baroDf18Tc17 h low3
  | 18 => .baroDf18Tc18 h low3
  | 19 => .unknownDf18Tc19 h low3
  | 20 => .gnssDf18Tc20 h low3
  | 21 => .gnssDf18Tc21 h low3
  | 22 => .gnssDf18Tc22 h low3
  | 23 => .unknownDf18Tc23 h low3
  | 24 => .unknownDf18Tc24 h low3
  | 25 => .unknownDf18Tc25 h low3
  | 26 => .unknownDf18Tc26 h low3
  | 27 => .unknownDf18Tc27 h low3
  | 28 => .unknownDf18Tc28 h low3
  | 29 => .unknownDf18Tc29 h low3
  | 30 => .unknownDf18Tc30 h low3
  | _ => .unknownDf18Tc31 h low3

/-- The row of an accepted pair (R97). -/
def selectRow (df tc : BitVec 5) (h : Head) (low3 : BitVec 3) : Instr :=
  if df = 17 then rowDf17 tc h low3 else rowDf18 tc h low3

/-! ## Decoding -/

/-- DECODE up to the dispatch (R173): `b` is `FB[0 .. R_LEN-1]`. The check of the downlink format
stands after the address extraction (R172, conflict C2). The instruction's operands that no rule
reads (timestamp, signal level, `FB[13][2:0]`) are copied from the bytes beside the cursor, which
ends at `(13, 5)`. -/
def decode (b : List Byte) : Stage Instr :=
  (hdr b (.ofPos 0)).andThen fun _ c =>
  (dfca b c).andThen fun dc c =>
  (icao b c).andThen fun addr c =>
  if dc.1 ≠ 17 ∧ dc.1 ≠ 18 then .raise .badDf c
  else (typecode b c).andThen fun tc c =>
    .ok (selectRow dc.1 tc ⟨field b 16 48, field b 64 8, dc.2, addr⟩ (field b 109 3)) c

/-! ## Encoding -/

/-- What a row fixes and what it leaves free, read off the instruction (R97). -/
structure Parts where
  cls  : FrameClass
  df   : BitVec 5
  tc   : BitVec 5
  head : Head
  low3 : BitVec 3
  deriving DecidableEq, Repr

/-- Class, downlink format and type code of each row, with the operands. -/
def Instr.parts : Instr → Parts
  | .unknownDf17Tc0 h low3 => ⟨.unknown, 17, 0, h, low3⟩
  | .identDf17Tc1 h low3 => ⟨.ident, 17, 1, h, low3⟩
  | .identDf17Tc2 h low3 => ⟨.ident, 17, 2, h, low3⟩
  | .identDf17Tc3 h low3 => ⟨.ident, 17, 3, h, low3⟩
  | .identDf17Tc4 h low3 => ⟨.ident, 17, 4, h, low3⟩
  | .unknownDf17Tc5 h low3 => ⟨.unknown, 17, 5, h, low3⟩
  | .unknownDf17Tc6 h low3 => ⟨.unknown, 17, 6, h, low3⟩
  | .unknownDf17Tc7 h low3 => ⟨.unknown, 17, 7, h, low3⟩
  | .unknownDf17Tc8 h low3 => ⟨.unknown, 17, 8, h, low3⟩
  | .baroDf17Tc9 h low3 => ⟨.baro, 17, 9, h, low3⟩
  | .baroDf17Tc10 h low3 => ⟨.baro, 17, 10, h, low3⟩
  | .baroDf17Tc11 h low3 => ⟨.baro, 17, 11, h, low3⟩
  | .baroDf17Tc12 h low3 => ⟨.baro, 17, 12, h, low3⟩
  | .baroDf17Tc13 h low3 => ⟨.baro, 17, 13, h, low3⟩
  | .baroDf17Tc14 h low3 => ⟨.baro, 17, 14, h, low3⟩
  | .baroDf17Tc15 h low3 => ⟨.baro, 17, 15, h, low3⟩
  | .baroDf17Tc16 h low3 => ⟨.baro, 17, 16, h, low3⟩
  | .baroDf17Tc17 h low3 => ⟨.baro, 17, 17, h, low3⟩
  | .baroDf17Tc18 h low3 => ⟨.baro, 17, 18, h, low3⟩
  | .unknownDf17Tc19 h low3 => ⟨.unknown, 17, 19, h, low3⟩
  | .gnssDf17Tc20 h low3 => ⟨.gnss, 17, 20, h, low3⟩
  | .gnssDf17Tc21 h low3 => ⟨.gnss, 17, 21, h, low3⟩
  | .gnssDf17Tc22 h low3 => ⟨.gnss, 17, 22, h, low3⟩
  | .unknownDf17Tc23 h low3 => ⟨.unknown, 17, 23, h, low3⟩
  | .unknownDf17Tc24 h low3 => ⟨.unknown, 17, 24, h, low3⟩
  | .unknownDf17Tc25 h low3 => ⟨.unknown, 17, 25, h, low3⟩
  | .unknownDf17Tc26 h low3 => ⟨.unknown, 17, 26, h, low3⟩
  | .unknownDf17Tc27 h low3 => ⟨.unknown, 17, 27, h, low3⟩
  | .unknownDf17Tc28 h low3 => ⟨.unknown, 17, 28, h, low3⟩
  | .unknownDf17Tc29 h low3 => ⟨.unknown, 17, 29, h, low3⟩
  | .unknownDf17Tc30 h low3 => ⟨.unknown, 17, 30, h, low3⟩
  | .unknownDf17Tc31 h low3 => ⟨.unknown, 17, 31, h, low3⟩
  | .unknownDf18Tc0 h low3 => ⟨.unknown, 18, 0, h, low3⟩
  | .identDf18Tc1 h low3 => ⟨.ident, 18, 1, h, low3⟩
  | .identDf18Tc2 h low3 => ⟨.ident, 18, 2, h, low3⟩
  | .identDf18Tc3 h low3 => ⟨.ident, 18, 3, h, low3⟩
  | .identDf18Tc4 h low3 => ⟨.ident, 18, 4, h, low3⟩
  | .unknownDf18Tc5 h low3 => ⟨.unknown, 18, 5, h, low3⟩
  | .unknownDf18Tc6 h low3 => ⟨.unknown, 18, 6, h, low3⟩
  | .unknownDf18Tc7 h low3 => ⟨.unknown, 18, 7, h, low3⟩
  | .unknownDf18Tc8 h low3 => ⟨.unknown, 18, 8, h, low3⟩
  | .baroDf18Tc9 h low3 => ⟨.baro, 18, 9, h, low3⟩
  | .baroDf18Tc10 h low3 => ⟨.baro, 18, 10, h, low3⟩
  | .baroDf18Tc11 h low3 => ⟨.baro, 18, 11, h, low3⟩
  | .baroDf18Tc12 h low3 => ⟨.baro, 18, 12, h, low3⟩
  | .baroDf18Tc13 h low3 => ⟨.baro, 18, 13, h, low3⟩
  | .baroDf18Tc14 h low3 => ⟨.baro, 18, 14, h, low3⟩
  | .baroDf18Tc15 h low3 => ⟨.baro, 18, 15, h, low3⟩
  | .baroDf18Tc16 h low3 => ⟨.baro, 18, 16, h, low3⟩
  | .baroDf18Tc17 h low3 => ⟨.baro, 18, 17, h, low3⟩
  | .baroDf18Tc18 h low3 => ⟨.baro, 18, 18, h, low3⟩
  | .unknownDf18Tc19 h low3 => ⟨.unknown, 18, 19, h, low3⟩
  | .gnssDf18Tc20 h low3 => ⟨.gnss, 18, 20, h, low3⟩
  | .gnssDf18Tc21 h low3 => ⟨.gnss, 18, 21, h, low3⟩
  | .gnssDf18Tc22 h low3 => ⟨.gnss, 18, 22, h, low3⟩
  | .unknownDf18Tc23 h low3 => ⟨.unknown, 18, 23, h, low3⟩
  | .unknownDf18Tc24 h low3 => ⟨.unknown, 18, 24, h, low3⟩
  | .unknownDf18Tc25 h low3 => ⟨.unknown, 18, 25, h, low3⟩
  | .unknownDf18Tc26 h low3 => ⟨.unknown, 18, 26, h, low3⟩
  | .unknownDf18Tc27 h low3 => ⟨.unknown, 18, 27, h, low3⟩
  | .unknownDf18Tc28 h low3 => ⟨.unknown, 18, 28, h, low3⟩
  | .unknownDf18Tc29 h low3 => ⟨.unknown, 18, 29, h, low3⟩
  | .unknownDf18Tc30 h low3 => ⟨.unknown, 18, 30, h, low3⟩
  | .unknownDf18Tc31 h low3 => ⟨.unknown, 18, 31, h, low3⟩

/-- Frame class of the row. -/
def Instr.cls (i : Instr) : FrameClass := i.parts.cls
/-- Downlink format of the row. -/
def Instr.df (i : Instr) : BitVec 5 := i.parts.df
/-- Type code of the row. -/
def Instr.tc (i : Instr) : BitVec 5 := i.parts.tc
/-- The free fields of the common prefix. -/
def Instr.head (i : Instr) : Head := i.parts.head
/-- `FB[13][2:0]`. -/
def Instr.low3 (i : Instr) : BitVec 3 := i.parts.low3

/-- The common prefix, frame bytes 0 to 13, from the field table of R81 (big-endian, R54). -/
def encodePrefix (df tc : BitVec 5) (h : Head) (low3 : BitVec 3) : List Byte :=
  [Config.sync0, Config.sync1,
   h.ts.extractLsb' 40 8, h.ts.extractLsb' 32 8, h.ts.extractLsb' 24 8,
   h.ts.extractLsb' 16 8, h.ts.extractLsb' 8 8, h.ts.extractLsb' 0 8,
   h.sig,
   df ++ h.ca,
   h.addr.extractLsb' 16 8, h.addr.extractLsb' 8 8, h.addr.extractLsb' 0 8,
   tc ++ low3]

/-- The opcode word of an instruction: its 14 bytes, frame byte 0 first (R97). -/
def encode (i : Instr) : List Byte := encodePrefix i.df i.tc i.head i.low3

/-- The eight 6-bit codes in six bytes, from the field table of R86. -/
def packCodes (c : Eight (BitVec 6)) : List Byte :=
  [c.c0 ++ c.c1.extractLsb' 4 2,
   c.c1.extractLsb' 0 4 ++ c.c2.extractLsb' 2 4,
   c.c2.extractLsb' 0 2 ++ c.c3,
   c.c4 ++ c.c5.extractLsb' 4 2,
   c.c5.extractLsb' 0 4 ++ c.c6.extractLsb' 2 4,
   c.c6.extractLsb' 0 2 ++ c.c7]

/-- The 12-bit altitude in two bytes, low nibble of the second zero, from the table of R87. -/
def packAlt (alt : BitVec 12) : List Byte :=
  [alt.extractLsb' 4 8, alt.extractLsb' 0 4 ++ (0 : BitVec 4)]

/-- The assembled byte string of a frame (R103): 20 bytes for IDENT, 16 for the others, an UNKNOWN
frame padded with two zero bytes. -/
def assemble : FrameText → List Byte
  | .ident df tc h cat codes => encodePrefix df tc h cat ++ packCodes codes
  | .baro df tc h ss saf alt => encodePrefix df tc h (ss ++ saf) ++ packAlt alt
  | .gnss df tc h ss saf alt => encodePrefix df tc h (ss ++ saf) ++ packAlt alt
  | .unknown df tc h low3 => encodePrefix df tc h low3 ++ [0, 0]

/-! ## The opcode table's words -/

/-- `n` bytes of `w`, bits 7..0 first. -/
def bytesLow (w : Nat) : Nat → List Byte
  | 0 => []
  | n + 1 => BitVec.ofNat 8 w :: bytesLow (w / 256) n

/-- Whether a byte string begins with the two marker bytes. -/
def startsWithMarker : List Byte → Bool
  | m0 :: m1 :: _ => m0 == Config.sync0 && m1 == Config.sync1
  | _ => false

/-- The bytes of a table word, followed by zero bytes up to the longest frame. Byte `k` is bits
`8k+7 .. 8k`; a word that has the marker only in its most significant bytes is the table's digit
string of R97 read as one number, frame byte 0 first (log entry 7). -/
def tableBytes (nbits w : Nat) : List Byte :=
  let low := bytesLow w (nbits / 8)
  let bytes := if !startsWithMarker low && startsWithMarker low.reverse then low.reverse else low
  bytes ++ List.replicate (Config.lenIdent - bytes.length) 0

/-- The instruction the decoder reads from a word of the opcode table. -/
def decodeTableWord (nbits w : Nat) : Option Instr :=
  match decode (tableBytes nbits w) with
  | .ok i _ => some i
  | .raise _ _ => none

end Sys2Proof
end

