-- ==== Sys2Proof/WellFormed.lean ====
section
/-! DEFINITION. Well-formed terms: the row of an instruction against the ranges of the dispatch, and
the checks rule R103 makes on a frame written as a mnemonic. -/

namespace Sys2Proof

/-- `df` must be 17 or 18 and the class must agree with the type code (R96, R103). -/
def rowOk (cls : FrameClass) (df tc : BitVec 5) : Bool :=
  dfAccepted df && classOf tc == cls

/-- The instruction names a row of the opcode table, in the class its type code selects. -/
def Instr.wf (i : Instr) : Bool := rowOk i.cls i.df i.tc

/-- "The mnemonic must agree with `tc` (rule R96); `df` must be 17 or 18" (R103). -/
def FrameText.wf : FrameText → Bool
  | .ident df tc _ _ _ => rowOk .ident df tc
  | .baro df tc _ _ _ _ => rowOk .baro df tc
  | .gnss df tc _ _ _ _ => rowOk .gnss df tc
  | .unknown df tc _ _ => rowOk .unknown df tc

end Sys2Proof
end

