-- ==== Sys2Proof/Machine/State.lean ====
section
/-! DEFINITION. The state of the block (R20), plain data: the frame buffer, the bit cursor, the
result registers, the halt flag, the aggregation table; beside them the host's side of the
interface: the commands it has issued and the value the last command returned. -/

namespace Sys2Proof.Machine

/-- A byte memory: (address, byte) pairs, addresses strictly rising (`Memory.wf`). An address that
is not listed holds no value: the spec gives the buffer no contents before a LOAD (R21, R264). -/
abbrev Memory := List Host.Cell

/-- `R_STATUS` (R24); codes 6 and 7 are reserved and never written. `Status.code` numbers them. -/
inductive Status where
  | none
  | ok
  | notAFrame
  | errBadDf
  | errExhausted
  | errMisalign
  deriving DecidableEq, Repr

/-- `R_KIND` (R29). -/
inductive Kind where
  | unknown
  | ident
  | baro
  | gnss
  deriving DecidableEq, Repr

/-- `R_UPD` (R36). -/
inductive Upd where
  | none
  | done
  | noop
  | full
  deriving DecidableEq, Repr

/-- A table entry (R39): callsign text of 0 to 8 bytes and a 12-bit altitude. -/
structure Entry where
  callsign : List Byte
  altitude : BitVec 12
  deriving DecidableEq, Repr

/-- The aggregation table `T` (R38): (address, entry) pairs, addresses strictly rising
(`Table.wf`); an address that is not listed is `absent`. -/
abbrev Table := List (BitVec 24 × Entry)

/-- One record of a rendered list (R196). -/
structure Record where
  addr     : BitVec 24
  callsign : List Byte
  altitude : BitVec 12
  deriving DecidableEq, Repr

/-- The host commands (R210). -/
inductive Command where
  | load (bytes : List Byte)
  | decode
  | update
  | lookup (a : BitVec 24)
  | render
  | process (bytes : List Byte)
  | reset
  deriving DecidableEq, Repr

/-- What the last command returned to the host (R210). The results of DECODE, UPDATE and PROCESS
stand in the registers, so those commands answer `done`. -/
inductive Reply where
  /-- No command has completed yet. -/
  | none
  /-- The command completed; what it returns stands in the registers. -/
  | done
  /-- The block refused the command (R212, R219): it changed no state. -/
  | refused
  /-- LOOKUP: `absent`, or a copy of the entry (R195). -/
  | entry (e : Option Entry)
  /-- RENDER: the ordered list of records (R197). -/
  | records (l : List Record)
  deriving DecidableEq, Repr

/-- The payload of the abstract Frame (R32). -/
inductive Payload where
  | identification (callsign : List Byte)
  | barometricAltitude (raw : BitVec 12)
  | gnssAltitude (raw : BitVec 12)
  | unknown (tc : BitVec 5)
  deriving DecidableEq, Repr

/-- The abstract Frame (R32). -/
structure Frame where
  df      : BitVec 5
  ca      : BitVec 3
  addr    : BitVec 24
  payload : Payload
  deriving DecidableEq, Repr

/-- The whole state. `pending`, `reply` and `renders` are the model's own (log entries 4, 5). -/
structure State where
  /-- `FB` (R21). -/
  fb      : Memory
  /-- `R_LEN` (R22). -/
  rLen    : Nat
  /-- `CUR` (R23). -/
  cur     : Cursor
  /-- `R_STATUS` (R24). -/
  rStatus : Status
  /-- `R_DF` (R25). -/
  rDf     : BitVec 5
  /-- `R_CA` (R26). -/
  rCa     : BitVec 3
  /-- `R_ADDR` (R27). -/
  rAddr   : BitVec 24
  /-- `R_TC` (R28). -/
  rTc     : BitVec 5
  /-- `R_KIND` (R29). -/
  rKind   : Kind
  /-- `R_CS[0..7]` (R30). -/
  rCs     : Eight Byte
  /-- `R_CSLEN` (R30). -/
  rCsLen  : BitVec 4
  /-- `R_ALT` (R31). -/
  rAlt    : BitVec 12
  /-- `R_UPD` (R36). -/
  rUpd    : Upd
  /-- `HALTED` (R37). -/
  halted  : Bool
  /-- `T` (R38). -/
  table   : Table
  /-- Commands the host has issued and the block has not begun, next one first. -/
  pending : List Command
  /-- What the last command returned. -/
  reply   : Reply
  /-- How many RENDERs have run: picks the free tie order of the next one (`Config.tieRank`). -/
  renders : Nat
  deriving DecidableEq, Repr

/-- Why the machine stops. -/
inductive Fault where
  /-- Raised by DECODE, PROCESS and the IDENT, BARO and GNSS meanings when a byte below `R_LEN`
  was never written: the spec gives it no value (R264). No reachable state raises it. Safe. -/
  | unwrittenFrameByte
  deriving DecidableEq, Repr

/-- Why an instruction has no meaning. -/
inductive Refusal where
  /-- Raised by an arm of `exec` whose instruction has no meaning yet: none is left. Safe. -/
  | notModelled (mnemonic : String)
  deriving DecidableEq, Repr

/-- The state after reset and at power-up (R47, R260). `FB` lists nothing: unspecified. -/
def State.reset : State where
  fb      := []
  rLen    := 0
  cur     := ⟨0, 0⟩
  rStatus := .none
  rDf     := 0
  rCa     := 0
  rAddr   := 0
  rTc     := 0
  rKind   := .unknown
  rCs     := .fill 0
  rCsLen  := 0
  rAlt    := 0
  rUpd    := .none
  halted  := false
  table   := []
  pending := []
  reply   := .none
  renders := 0

end Sys2Proof.Machine
end

