-- ==== Sys2Proof/Machine/Flags.lean ====
section
/-! DEFINITION. The status codes and the conditions the block tests (R45), and the register image
the host reads. The block has no arithmetic flags. -/

namespace Sys2Proof.Machine

/-- The 3-bit code of `R_STATUS` (R24). -/
def Status.code : Status → BitVec 3
  | .none => 0
  | .ok => 1
  | .notAFrame => 2
  | .errBadDf => 3
  | .errExhausted => 4
  | .errMisalign => 5

/-- The 2-bit code of `R_KIND` (R29). -/
def Kind.code : Kind → BitVec 2
  | .unknown => 0
  | .ident => 1
  | .baro => 2
  | .gnss => 3

/-- The 2-bit code of `R_UPD` (R36). -/
def Upd.code : Upd → BitVec 2
  | .none => 0
  | .done => 1
  | .noop => 2
  | .full => 3

/-- The status a failure leaves in `R_STATUS` (R225). -/
def failureStatus : Failure → Status
  | .notAFrame => .notAFrame
  | .badDf => .errBadDf
  | .exhausted => .errExhausted
  | .misalign => .errMisalign

/-- The payload variant of a frame class (R143 to R148). -/
def classKind : FrameClass → Kind
  | .ident => .ident
  | .baro => .baro
  | .gnss => .gnss
  | .unknown => .unknown

/-- A visible entry (R198): callsign not empty, or altitude not zero. -/
def Entry.visible (e : Entry) : Bool := e.callsign != [] || e.altitude != 0

/-- Whether PROCESS issues UPDATE (R214, R215). -/
def updateWanted (s : State) : Bool := s.rStatus == .ok && s.rKind != .unknown

/-- The registers the host can read (R210): all of R20 but `CUR`, with their codes. -/
structure RegImage where
  len    : Nat
  status : BitVec 3
  df     : BitVec 5
  ca     : BitVec 3
  addr   : BitVec 24
  tc     : BitVec 5
  kind   : BitVec 2
  cs     : Eight Byte
  cslen  : BitVec 4
  alt    : BitVec 12
  upd    : BitVec 2
  halted : Bool
  deriving DecidableEq, Repr

/-- The register image of a state. -/
def State.regImage (s : State) : RegImage where
  len    := s.rLen
  status := s.rStatus.code
  df     := s.rDf
  ca     := s.rCa
  addr   := s.rAddr
  tc     := s.rTc
  kind   := s.rKind.code
  cs     := s.rCs
  cslen  := s.rCsLen
  alt    := s.rAlt
  upd    := s.rUpd.code
  halted := s.halted

end Sys2Proof.Machine
end

