-- ==== Sys2Proof/Machine/Operands.lean ====
section
/-! DEFINITION. Operand forms: how the payload of each class is read through the bit cursor and
turned into register values, the callsign text, and the abstract Frame of the registers. -/

namespace Sys2Proof.Machine

/-! ## Callsign (R160 to R169) -/

/-- `ch(c)` (R162): codes 1 to 26 get bit `0x40`, every other code passes through (conflict C4). -/
def ch (c : BitVec 6) : Byte :=
  if 1 ≤ c.toNat ∧ c.toNat < 27 then c.setWidth 8 ||| 0x40 else c.setWidth 8

/-- The trimming loop of R161 from length `n` down: while the last byte is `0x20`, drop it. -/
def trimLoop (cs : List Byte) : Nat → Nat
  | 0 => 0
  | n + 1 => if cs.getD n 0 = 0x20 then trimLoop cs n else n + 1

/-- `cslen` of R161 for eight bytes. -/
def trimmedLen (cs : Eight Byte) : Nat := trimLoop cs.toList 8

/-- The loop of R161: eight codes, in frame order. -/
def takeCodes (b : List Byte) (c : Cursor) : Stage (Eight (BitVec 6)) :=
  (take b 6 c).andThen fun c0 c =>
  (take b 6 c).andThen fun c1 c =>
  (take b 6 c).andThen fun c2 c =>
  (take b 6 c).andThen fun c3 c =>
  (take b 6 c).andThen fun c4 c =>
  (take b 6 c).andThen fun c5 c =>
  (take b 6 c).andThen fun c6 c =>
  (take b 6 c).andThen fun c7 c => .ok ⟨c0, c1, c2, c3, c4, c5, c6, c7⟩ c

/-- `CALLSIGN` (R161), bytes before trimming: aligned entry and exit, named point (c). -/
def callsign (b : List Byte) (c : Cursor) : Stage (Eight Byte) :=
  (alignCheck c).andThen fun _ c =>
  (takeCodes b c).andThen fun codes c =>
  (alignCheck c).andThen fun _ c => .ok (codes.map ch) c

/-! ## Payload extractors (R135, R136) -/

/-- `CATEGORY` (R135): 3 bits, then named point (b). -/
def category (b : List Byte) (c : Cursor) : Stage (BitVec 3) :=
  (take b 3 c).andThen fun cat c =>
  (alignCheck c).andThen fun _ c => .ok cat c

/-- `ALTFIELD` (R136): surveillance status and antenna flag skipped, 12 raw bits read. -/
def altField (b : List Byte) (c : Cursor) : Stage (BitVec 12) :=
  (skip b 2 c).andThen fun _ c =>
  (skip b 1 c).andThen fun _ c => take b 12 c

/-- What a payload decoder leaves for the registers `R_KIND`, `R_CS`, `R_CSLEN`, `R_ALT`. -/
structure PayloadRegs where
  kind  : Kind
  cs    : Eight Byte
  csLen : BitVec 4
  alt   : BitVec 12
  deriving DecidableEq, Repr

/-- Registers of an `Identification` (R175). -/
def identRegs (cs : Eight Byte) : PayloadRegs := ⟨.ident, cs, BitVec.ofNat 4 (trimmedLen cs), 0⟩
/-- Registers of a `BarometricAltitude` (R175). -/
def baroRegs (a : BitVec 12) : PayloadRegs := ⟨.baro, .fill 0, 0, a⟩
/-- Registers of a `GnssAltitude` (R175). -/
def gnssRegs (a : BitVec 12) : PayloadRegs := ⟨.gnss, .fill 0, 0, a⟩
/-- Registers of an `Unknown` (R175). -/
def unknownRegs : PayloadRegs := ⟨.unknown, .fill 0, 0, 0⟩

/-- `PAYLOAD_IDENT` (R143): the category is read and dropped (conflict C11). -/
def payloadIdent (b : List Byte) (c : Cursor) : Stage PayloadRegs :=
  (category b c).andThen fun _ c =>
  (callsign b c).andThen fun cs c => .ok (identRegs cs) c

/-- `PAYLOAD_BARO` (R144): the raw 12 bits, never converted (R147). -/
def payloadBaro (b : List Byte) (c : Cursor) : Stage PayloadRegs :=
  (altField b c).andThen fun a c => .ok (baroRegs a) c

/-- `PAYLOAD_GNSS` (R145): the layout of BARO, another variant (R146). -/
def payloadGnss (b : List Byte) (c : Cursor) : Stage PayloadRegs :=
  (altField b c).andThen fun a c => .ok (gnssRegs a) c

/-! ## The Frame in the registers (R30, R32) and the text of an address (R17) -/

/-- The callsign text `R_CS[0 .. R_CSLEN-1]` (R30). -/
def State.callsignText (s : State) : List Byte := s.rCs.toList.take s.rCsLen.toNat

/-- `frame_of_regs` (R32); there is no frame unless `R_STATUS = ST_OK`. -/
def State.frame (s : State) : Option Frame :=
  if s.rStatus = .ok then
    some ⟨s.rDf, s.rCa, s.rAddr,
      match s.rKind with
      | .ident => .identification s.callsignText
      | .baro => .barometricAltitude s.rAlt
      | .gnss => .gnssAltitude s.rAlt
      | .unknown => .unknown s.rTc⟩
  else none

/-- One character of `0123456789abcdef` (R17). -/
def hexDigit (n : BitVec 4) : Byte :=
  if n.toNat < 10 then BitVec.ofNat 8 (0x30 + n.toNat) else BitVec.ofNat 8 (0x57 + n.toNat)

/-- `hex6(a)` (R17): six lowercase hex digits, most significant nibble first. -/
def hex6 (a : BitVec 24) : List Byte :=
  [hexDigit (a.extractLsb' 20 4), hexDigit (a.extractLsb' 16 4), hexDigit (a.extractLsb' 12 4),
   hexDigit (a.extractLsb' 8 4), hexDigit (a.extractLsb' 4 4), hexDigit (a.extractLsb' 0 4)]

end Sys2Proof.Machine
end

