-- ==== Sys2Proof/Machine/Ops.lean ====
section
/-! DEFINITION. The named operations: the frame buffer, the aggregation table, writing a result,
taking a failure (the one shared exception entry), running a payload decoder. -/

namespace Sys2Proof.Machine

abbrev Result := Host.Outcome State Fault Refusal

/-! ## Frame buffer (R21, R50, R51) -/

/-- The canonical form: addresses strictly rising. An unlisted address holds no value, so no
entry can equal what it reads as. -/
def Memory.wf : Memory → Bool
  | [] => true
  | p :: m => m.all (fun q => decide (p.1 < q.1)) && Memory.wf m

/-- The byte at an address; none where nothing was written. -/
def Memory.read : Memory → Nat → Option Byte
  | [], _ => none
  | (k, v) :: m, a => if a = k then some v else Memory.read m a

/-- One byte written, the form kept. -/
def Memory.write : Memory → Nat → Byte → Memory
  | [], a, v => [(a, v)]
  | (k, w) :: m, a, v =>
    if a < k then (a, v) :: (k, w) :: m
    else if a = k then (a, v) :: m
    else (k, w) :: Memory.write m a v

/-- `MemWrite(a, n, v)` (R15): the bytes from address `a` on. -/
def Memory.writeBytes (m : Memory) (a : Nat) : List Byte → Memory
  | [] => m
  | v :: vs => Memory.writeBytes (m.write a v) (a + 1) vs

/-- `MemRead(a, n)` (R15): the bytes `a .. a+n-1`; none if one of them has no value. -/
def Memory.readBytes (m : Memory) (a : Nat) : Nat → Option (List Byte)
  | 0 => some []
  | n + 1 =>
    match m.read a, Memory.readBytes m (a + 1) n with
    | some v, some vs => some (v :: vs)
    | _, _ => none

/-- `FB[0 .. R_LEN-1]`, the bytes DECODE can read (R21, R51). -/
def State.frameBytes (s : State) : Option (List Byte) := s.fb.readBytes 0 s.rLen

/-- The buffer holds these bytes from address 0 and `R_LEN` is their number (R211). -/
def State.withFrame (s : State) (bytes : List Byte) : State :=
  { s with fb := s.fb.writeBytes 0 bytes, rLen := bytes.length }

/-! ## Aggregation table (R38 to R42, R63) -/

/-- The canonical form: addresses strictly rising, so each address at most once. -/
def Table.wf : Table → Bool
  | [] => true
  | p :: t => t.all (fun q => decide (p.1.toNat < q.1.toNat)) && Table.wf t

/-- `T[a]`, none for `absent` (R15). -/
def Table.get : Table → BitVec 24 → Option Entry
  | [], _ => none
  | (k, e) :: t, a => if a = k then some e else Table.get t a

/-- `T[a] <- e` (R15), the form kept. -/
def Table.set : Table → BitVec 24 → Entry → Table
  | [], a, e => [(a, e)]
  | (k, f) :: t, a, e =>
    if a.toNat < k.toNat then (a, e) :: (k, f) :: t
    else if a = k then (a, e) :: t
    else (k, f) :: Table.set t a e

/-- The entry of a new address (R190). -/
def Entry.default : Entry := ⟨[], 0⟩

/-- The one field an UPDATE sets (R186, R188, R189); the other keeps its value (R64). -/
def updatedEntry (s : State) (e : Entry) : Entry :=
  match s.rKind with
  | .ident => { e with callsign := s.callsignText }
  | .baro => { e with altitude := s.rAlt }
  | .gnss => { e with altitude := s.rAlt }
  | .unknown => e

/-- The body of UPDATE (R186) for a table of at most `cap` entries. -/
def updateTable (cap : Nat) (s : State) : State :=
  if s.rStatus ≠ .ok then { s with rUpd := .noop }
  else if s.rKind = .unknown then { s with rUpd := .noop }
  else
    match s.table.get s.rAddr with
    | some e => { s with table := s.table.set s.rAddr (updatedEntry s e), rUpd := .done }
    | none =>
      if s.table.length = cap then { s with rUpd := .full }
      else
        { s with table := s.table.set s.rAddr (updatedEntry s .default), rUpd := .done }

/-! ## Rendered list (R196 to R199) -/

/-- Whether a record may stand before another: lower altitude, and among equal altitudes the order
of `rank`, which R199 leaves free. -/
def Record.before (rank : BitVec 24 → Nat) (r q : Record) : Bool :=
  decide (r.altitude.toNat < q.altitude.toNat) ||
    (r.altitude == q.altitude && decide (rank r.addr ≤ rank q.addr))

/-- A record placed into a sorted list. -/
def insertRecord (rank : BitVec 24 → Nat) (r : Record) : List Record → List Record
  | [] => [r]
  | q :: l => if r.before rank q then r :: q :: l else q :: insertRecord rank r l

/-- The records of the visible entries (R197 (a), R198). -/
def visibleRecords : Table → List Record
  | [] => []
  | (a, e) :: t =>
    if e.visible then ⟨a, e.callsign, e.altitude⟩ :: visibleRecords t else visibleRecords t

/-- The visible records in ascending order of altitude, ties by `rank` (R197 (b)). -/
def sortRecords (rank : BitVec 24 → Nat) : List Record → List Record
  | [] => []
  | r :: l => insertRecord rank r (sortRecords rank l)

/-- RENDER of a table with a given order of ties. -/
def renderTable (rank : BitVec 24 → Nat) (t : Table) : List Record :=
  sortRecords rank (visibleRecords t)

/-! ## Results and failures of DECODE -/

/-- `WRITE_RESULT(OK(...))` (R175): every result register is overwritten. -/
def writeOk (df tc : BitVec 5) (ca : BitVec 3) (addr : BitVec 24) (p : PayloadRegs) (s : State) :
    State :=
  { s with
    rStatus := .ok, rDf := df, rCa := ca, rAddr := addr, rTc := tc
    rKind := p.kind, rCs := p.cs, rCsLen := p.csLen, rAlt := p.alt }

/-- Taking a failure, the block's exception entry (R175, R239): `R_STATUS` gets its code, every
frame register zero, and a misalignment sets `HALTED` (R234). Nothing is saved, no handler is
entered and no mode changes; there is no return operation, because the next command simply starts
clean (R242, R243). -/
def takeFailure (x : Failure) (s : State) : State :=
  { s with
    rStatus := failureStatus x, rDf := 0, rCa := 0, rAddr := 0, rTc := 0
    rKind := .unknown, rCs := .fill 0, rCsLen := 0, rAlt := 0
    halted := if x = .misalign then true else s.halted }

/-- A stage's end put into the state: the cursor where it stands, then the result or the failure. -/
def finishStage {α : Type} (r : Stage α) (onOk : α → State → State) (s : State) : State :=
  match r with
  | .ok a c => onOk a { s with cur := c }
  | .raise x c => takeFailure x { s with cur := c }

/-- A frame whose payload decoder reads the buffer at the cursor, then the write-back (R173). -/
def runPayload (payload : List Byte → Cursor → Stage PayloadRegs) (df tc : BitVec 5) (h : Head)
    (s : State) : Result :=
  match s.frameBytes with
  | none => .fault .unwrittenFrameByte
  | some b => .next (finishStage (payload b s.cur) (writeOk df tc h.ca h.addr) s)

/-! ## Commands -/

/-- A command that the block refuses changes no state (R212, R219). -/
def refuse (s : State) : State := { s with reply := .refused }

/-- A completed command whose results stand in the registers. -/
def complete (s : State) : State := { s with reply := .done }

/-- Continue from a next state; a stop stays a stop. -/
def thenRun (r : Result) (k : State → Result) : Result :=
  match r with
  | .next s => k s
  | .fault f => .fault f
  | .refused f => .refused f

/-- The frame placed as DECODE will find it, with DECODE the next command of a block that is not
halted: what a word of the opcode table takes to run (log entry 6). -/
def placeWord (s : State) (nbits w : Nat) : State :=
  { s.withFrame (tableBytes nbits w) with halted := false, pending := .decode :: s.pending }

end Sys2Proof.Machine
end

