-- ==== Sys2Proof/Machine/Baro.lean ====
section
/-! DEFINITION. Meanings of the BARO frames: the raw 12-bit altitude (R144). -/

namespace Sys2Proof.Machine

/-- `BARO.DF17.TC9` (R144). -/
def execBaroDf17Tc9 (h : Head) (_low3 : BitVec 3) (s : State) : Result :=
  runPayload payloadBaro 17 9 h s

/-- `BARO.DF17.TC10` (R144). -/
def execBaroDf17Tc10 (h : Head) (_low3 : BitVec 3) (s : State) : Result :=
  runPayload payloadBaro 17 10 h s

/-- `BARO.DF17.TC11` (R144). -/
def execBaroDf17Tc11 (h : Head) (_low3 : BitVec 3) (s : State) : Result :=
  runPayload payloadBaro 17 11 h s

/-- `BARO.DF17.TC12` (R144). -/
def execBaroDf17Tc12 (h : Head) (_low3 : BitVec 3) (s : State) : Result :=
  runPayload payloadBaro 17 12 h s

/-- `BARO.DF17.TC13` (R144). -/
def execBaroDf17Tc13 (h : Head) (_low3 : BitVec 3) (s : State) : Result :=
  runPayload payloadBaro 17 13 h s

/-- `BARO.DF17.TC14` (R144). -/
def execBaroDf17Tc14 (h : Head) (_low3 : BitVec 3) (s : State) : Result :=
  runPayload payloadBaro 17 14 h s

/-- `BARO.DF17.TC15` (R144). -/
def execBaroDf17Tc15 (h : Head) (_low3 : BitVec 3) (s : State) : Result :=
  runPayload payloadBaro 17 15 h s

/-- `BARO.DF17.TC16` (R144). -/
def execBaroDf17Tc16 (h : Head) (_low3 : BitVec 3) (s : State) : Result :=
  runPayload payloadBaro 17 16 h s

/-- `BARO.DF17.TC17` (R144). -/
def execBaroDf17Tc17 (h : Head) (_low3 : BitVec 3) (s : State) : Result :=
  runPayload payloadBaro 17 17 h s

/-- `BARO.DF17.TC18` (R144). -/
def execBaroDf17Tc18 (h : Head) (_low3 : BitVec 3) (s : State) : Result :=
  runPayload payloadBaro 17 18 h s

/-- `BARO.DF18.TC9` (R144). -/
def execBaroDf18Tc9 (h : Head) (_low3 : BitVec 3) (s : State) : Result :=
  runPayload payloadBaro 18 9 h s

/-- `BARO.DF18.TC10` (R144). -/
def execBaroDf18Tc10 (h : Head) (_low3 : BitVec 3) (s : State) : Result :=
  runPayload payloadBaro 18 10 h s

/-- `BARO.DF18.TC11` (R144). -/
def execBaroDf18Tc11 (h : Head) (_low3 : BitVec 3) (s : State) : Result :=
  runPayload payloadBaro 18 11 h s

/-- `BARO.DF18.TC12` (R144). -/
def execBaroDf18Tc12 (h : Head) (_low3 : BitVec 3) (s : State) : Result :=
  runPayload payloadBaro 18 12 h s

/-- `BARO.DF18.TC13` (R144). -/
def execBaroDf18Tc13 (h : Head) (_low3 : BitVec 3) (s : State) : Result :=
  runPayload payloadBaro 18 13 h s

/-- `BARO.DF18.TC14` (R144). -/
def execBaroDf18Tc14 (h : Head) (_low3 : BitVec 3) (s : State) : Result :=
  runPayload payloadBaro 18 14 h s

/-- `BARO.DF18.TC15` (R144). -/
def execBaroDf18Tc15 (h : Head) (_low3 : BitVec 3) (s : State) : Result :=
  runPayload payloadBaro 18 15 h s

/-- `BARO.DF18.TC16` (R144). -/
def execBaroDf18Tc16 (h : Head) (_low3 : BitVec 3) (s : State) : Result :=
  runPayload payloadBaro 18 16 h s

/-- `BARO.DF18.TC17` (R144). -/
def execBaroDf18Tc17 (h : Head) (_low3 : BitVec 3) (s : State) : Result :=
  runPayload payloadBaro 18 17 h s

/-- `BARO.DF18.TC18` (R144). -/
def execBaroDf18Tc18 (h : Head) (_low3 : BitVec 3) (s : State) : Result :=
  runPayload payloadBaro 18 18 h s

end Sys2Proof.Machine
end

