-- ==== Sys2Proof/Machine/Gnss.lean ====
section
/-! DEFINITION. Meanings of the GNSS frames (R145): the raw 12-bit altitude, as another variant
than BARO (R146). -/

namespace Sys2Proof.Machine

/-- `GNSS.DF17.TC20` (R145). -/
def execGnssDf17Tc20 (h : Head) (_low3 : BitVec 3) (s : State) : Result :=
  runPayload payloadGnss 17 20 h s

/-- `GNSS.DF17.TC21` (R145). -/
def execGnssDf17Tc21 (h : Head) (_low3 : BitVec 3) (s : State) : Result :=
  runPayload payloadGnss 17 21 h s

/-- `GNSS.DF17.TC22` (R145). -/
def execGnssDf17Tc22 (h : Head) (_low3 : BitVec 3) (s : State) : Result :=
  runPayload payloadGnss 17 22 h s

/-- `GNSS.DF18.TC20` (R145). -/
def execGnssDf18Tc20 (h : Head) (_low3 : BitVec 3) (s : State) : Result :=
  runPayload payloadGnss 18 20 h s

/-- `GNSS.DF18.TC21` (R145). -/
def execGnssDf18Tc21 (h : Head) (_low3 : BitVec 3) (s : State) : Result :=
  runPayload payloadGnss 18 21 h s

/-- `GNSS.DF18.TC22` (R145). -/
def execGnssDf18Tc22 (h : Head) (_low3 : BitVec 3) (s : State) : Result :=
  runPayload payloadGnss 18 22 h s

end Sys2Proof.Machine
end

