-- ==== Sys2Proof/Machine/Ident.lean ====
section
/-! DEFINITION. Meanings of the IDENT frames (R143): the category is dropped, the eight characters
are decoded, the callsign is trimmed. A buffer of fewer than 20 bytes ends in `ERR_EXHAUSTED`
(R166). -/

namespace Sys2Proof.Machine

/-- `IDENT.DF17.TC1` (R143). -/
def execIdentDf17Tc1 (h : Head) (_low3 : BitVec 3) (s : State) : Result :=
  runPayload payloadIdent 17 1 h s

/-- `IDENT.DF17.TC2` (R143). -/
def execIdentDf17Tc2 (h : Head) (_low3 : BitVec 3) (s : State) : Result :=
  runPayload payloadIdent 17 2 h s

/-- `IDENT.DF17.TC3` (R143). -/
def execIdentDf17Tc3 (h : Head) (_low3 : BitVec 3) (s : State) : Result :=
  runPayload payloadIdent 17 3 h s

/-- `IDENT.DF17.TC4` (R143). -/
def execIdentDf17Tc4 (h : Head) (_low3 : BitVec 3) (s : State) : Result :=
  runPayload payloadIdent 17 4 h s

/-- `IDENT.DF18.TC1` (R143). -/
def execIdentDf18Tc1 (h : Head) (_low3 : BitVec 3) (s : State) : Result :=
  runPayload payloadIdent 18 1 h s

/-- `IDENT.DF18.TC2` (R143). -/
def execIdentDf18Tc2 (h : Head) (_low3 : BitVec 3) (s : State) : Result :=
  runPayload payloadIdent 18 2 h s

/-- `IDENT.DF18.TC3` (R143). -/
def execIdentDf18Tc3 (h : Head) (_low3 : BitVec 3) (s : State) : Result :=
  runPayload payloadIdent 18 3 h s

/-- `IDENT.DF18.TC4` (R143). -/
def execIdentDf18Tc4 (h : Head) (_low3 : BitVec 3) (s : State) : Result :=
  runPayload payloadIdent 18 4 h s

end Sys2Proof.Machine
end

