-- ==== Sys2Proof/Machine/Unknown.lean ====
section
/-! DEFINITION. Meanings of the UNKNOWN frames (R148): no further bytes are read and the cursor
stays where the type code left it; the result is a valid frame. -/

namespace Sys2Proof.Machine

/-- `UNKNOWN.DF17.TC0` (R148). -/
def execUnknownDf17Tc0 (h : Head) (_low3 : BitVec 3) (s : State) : Result :=
  .next (writeOk 17 0 h.ca h.addr unknownRegs s)

/-- `UNKNOWN.DF17.TC5` (R148). -/
def execUnknownDf17Tc5 (h : Head) (_low3 : BitVec 3) (s : State) : Result :=
  .next (writeOk 17 5 h.ca h.addr unknownRegs s)

/-- `UNKNOWN.DF17.TC6` (R148). -/
def execUnknownDf17Tc6 (h : Head) (_low3 : BitVec 3) (s : State) : Result :=
  .next (writeOk 17 6 h.ca h.addr unknownRegs s)

/-- `UNKNOWN.DF17.TC7` (R148). -/
def execUnknownDf17Tc7 (h : Head) (_low3 : BitVec 3) (s : State) : Result :=
  .next (writeOk 17 7 h.ca h.addr unknownRegs s)

/-- `UNKNOWN.DF17.TC8` (R148). -/
def execUnknownDf17Tc8 (h : Head) (_low3 : BitVec 3) (s : State) : Result :=
  .next (writeOk 17 8 h.ca h.addr unknownRegs s)

/-- `UNKNOWN.DF17.TC19` (R148). -/
def execUnknownDf17Tc19 (h : Head) (_low3 : BitVec 3) (s : State) : Result :=
  .next (writeOk 17 19 h.ca h.addr unknownRegs s)

/-- `UNKNOWN.DF17.TC23` (R148). -/
def execUnknownDf17Tc23 (h : Head) (_low3 : BitVec 3) (s : State) : Result :=
  .next (writeOk 17 23 h.ca h.addr unknownRegs s)

/-- `UNKNOWN.DF17.TC24` (R148). -/
def execUnknownDf17Tc24 (h : Head) (_low3 : BitVec 3) (s : State) : Result :=
  .next (writeOk 17 24 h.ca h.addr unknownRegs s)

/-- `UNKNOWN.DF17.TC25` (R148). -/
def execUnknownDf17Tc25 (h : Head) (_low3 : BitVec 3) (s : State) : Result :=
  .next (writeOk 17 25 h.ca h.addr unknownRegs s)

/-- `UNKNOWN.DF17.TC26` (R148). -/
def execUnknownDf17Tc26 (h : Head) (_low3 : BitVec 3) (s : State) : Result :=
  .next (writeOk 17 26 h.ca h.addr unknownRegs s)

/-- `UNKNOWN.DF17.TC27` (R148). -/
def execUnknownDf17Tc27 (h : Head) (_low3 : BitVec 3) (s : State) : Result :=
  .next (writeOk 17 27 h.ca h.addr unknownRegs s)

/-- `UNKNOWN.DF17.TC28` (R148). -/
def execUnknownDf17Tc28 (h : Head) (_low3 : BitVec 3) (s : State) : Result :=
  .next (writeOk 17 28 h.ca h.addr unknownRegs s)

/-- `UNKNOWN.DF17.TC29` (R148). -/
def execUnknownDf17Tc29 (h : Head) (_low3 : BitVec 3) (s : State) : Result :=
  .next (writeOk 17 29 h.ca h.addr unknownRegs s)

/-- `UNKNOWN.DF17.TC30` (R148). -/
def execUnknownDf17Tc30 (h : Head) (_low3 : BitVec 3) (s : State) : Result :=
  .next (writeOk 17 30 h.ca h.addr unknownRegs s)

/-- `UNKNOWN.DF17.TC31` (R148). -/
def execUnknownDf17Tc31 (h : Head) (_low3 : BitVec 3) (s : State) : Result :=
  .next (writeOk 17 31 h.ca h.addr unknownRegs s)

/-- `UNKNOWN.DF18.TC0` (R148). -/
def execUnknownDf18Tc0 (h : Head) (_low3 : BitVec 3) (s : State) : Result :=
  .next (writeOk 18 0 h.ca h.addr unknownRegs s)

/-- `UNKNOWN.DF18.TC5` (R148). -/
def execUnknownDf18Tc5 (h : Head) (_low3 : BitVec 3) (s : State) : Result :=
  .next (writeOk 18 5 h.ca h.addr unknownRegs s)

/-- `UNKNOWN.DF18.TC6` (R148). -/
def execUnknownDf18Tc6 (h : Head) (_low3 : BitVec 3) (s : State) : Result :=
  .next (writeOk 18 6 h.ca h.addr unknownRegs s)

/-- `UNKNOWN.DF18.TC7` (R148). -/
def execUnknownDf18Tc7 (h : Head) (_low3 : BitVec 3) (s : State) : Result :=
  .next (writeOk 18 7 h.ca h.addr unknownRegs s)

/-- `UNKNOWN.DF18.TC8` (R148). -/
def execUnknownDf18Tc8 (h : Head) (_low3 : BitVec 3) (s : State) : Result :=
  .next (writeOk 18 8 h.ca h.addr unknownRegs s)

/-- `UNKNOWN.DF18.TC19` (R148). -/
def execUnknownDf18Tc19 (h : Head) (_low3 : BitVec 3) (s : State) : Result :=
  .next (writeOk 18 19 h.ca h.addr unknownRegs s)

/-- `UNKNOWN.DF18.TC23` (R148). -/
def execUnknownDf18Tc23 (h : Head) (_low3 : BitVec 3) (s : State) : Result :=
  .next (writeOk 18 23 h.ca h.addr unknownRegs s)

/-- `UNKNOWN.DF18.TC24` (R148). -/
def execUnknownDf18Tc24 (h : Head) (_low3 : BitVec 3) (s : State) : Result :=
  .next (writeOk 18 24 h.ca h.addr unknownRegs s)

/-- `UNKNOWN.DF18.TC25` (R148). -/
def execUnknownDf18Tc25 (h : Head) (_low3 : BitVec 3) (s : State) : Result :=
  .next (writeOk 18 25 h.ca h.addr unknownRegs s)

/-- `UNKNOWN.DF18.TC26` (R148). -/
def execUnknownDf18Tc26 (h : Head) (_low3 : BitVec 3) (s : State) : Result :=
  .next (writeOk 18 26 h.ca h.addr unknownRegs s)

/-- `UNKNOWN.DF18.TC27` (R148). -/
def execUnknownDf18Tc27 (h : Head) (_low3 : BitVec 3) (s : State) : Result :=
  .next (writeOk 18 27 h.ca h.addr unknownRegs s)

/-- `UNKNOWN.DF18.TC28` (R148). -/
def execUnknownDf18Tc28 (h : Head) (_low3 : BitVec 3) (s : State) : Result :=
  .next (writeOk 18 28 h.ca h.addr unknownRegs s)

/-- `UNKNOWN.DF18.TC29` (R148). -/
def execUnknownDf18Tc29 (h : Head) (_low3 : BitVec 3) (s : State) : Result :=
  .next (writeOk 18 29 h.ca h.addr unknownRegs s)

/-- `UNKNOWN.DF18.TC30` (R148). -/
def execUnknownDf18Tc30 (h : Head) (_low3 : BitVec 3) (s : State) : Result :=
  .next (writeOk 18 30 h.ca h.addr unknownRegs s)

/-- `UNKNOWN.DF18.TC31` (R148). -/
def execUnknownDf18Tc31 (h : Head) (_low3 : BitVec 3) (s : State) : Result :=
  .next (writeOk 18 31 h.ca h.addr unknownRegs s)

end Sys2Proof.Machine
end

