-- ==== Sys2Proof/Machine/Dispatch.lean ====
section
/-! DEFINITION. The dispatch: one arm per row of the opcode table. -/

namespace Sys2Proof.Machine

def exec (i : Instr) (s : State) : Host.Outcome State Fault Refusal :=
  match i with
  | .unknownDf17Tc0 h low3 => Sys2Proof.Machine.execUnknownDf17Tc0 h low3 s
  | .identDf17Tc1 h low3 => Sys2Proof.Machine.execIdentDf17Tc1 h low3 s
  | .identDf17Tc2 h low3 => Sys2Proof.Machine.execIdentDf17Tc2 h low3 s
  | .identDf17Tc3 h low3 => Sys2Proof.Machine.execIdentDf17Tc3 h low3 s
  | .identDf17Tc4 h low3 => Sys2Proof.Machine.execIdentDf17Tc4 h low3 s
  | .unknownDf17Tc5 h low3 => Sys2Proof.Machine.execUnknownDf17Tc5 h low3 s
  | .unknownDf17Tc6 h low3 => Sys2Proof.Machine.execUnknownDf17Tc6 h low3 s
  | .unknownDf17Tc7 h low3 => Sys2Proof.Machine.execUnknownDf17Tc7 h low3 s
  | .unknownDf17Tc8 h low3 => Sys2Proof.Machine.execUnknownDf17Tc8 h low3 s
  | .baroDf17Tc9 h low3 => Sys2Proof.Machine.execBaroDf17Tc9 h low3 s
  | .baroDf17Tc10 h low3 => Sys2Proof.Machine.execBaroDf17Tc10 h low3 s
  | .baroDf17Tc11 h low3 => Sys2Proof.Machine.execBaroDf17Tc11 h low3 s
  | .baroDf17Tc12 h low3 => Sys2Proof.Machine.execBaroDf17Tc12 h low3 s
  | .baroDf17Tc13 h low3 => Sys2Proof.Machine.execBaroDf17Tc13 h low3 s
  | .baroDf17Tc14 h low3 => Sys2Proof.Machine.execBaroDf17Tc14 h low3 s
  | .baroDf17Tc15 h low3 => Sys2Proof.Machine.execBaroDf17Tc15 h low3 s
  | .baroDf17Tc16 h low3 => Sys2Proof.Machine.execBaroDf17Tc16 h low3 s
  | .baroDf17Tc17 h low3 => Sys2Proof.Machine.execBaroDf17Tc17 h low3 s
  | .baroDf17Tc18 h low3 => Sys2Proof.Machine.execBaroDf17Tc18 h low3 s
  | .unknownDf17Tc19 h low3 => Sys2Proof.Machine.execUnknownDf17Tc19 h low3 s
  | .gnssDf17Tc20 h low3 => Sys2Proof.Machine.execGnssDf17Tc20 h low3 s
  | .gnssDf17Tc21 h low3 => Sys2Proof.Machine.execGnssDf17Tc21 h low3 s
  | .gnssDf17Tc22 h low3 => Sys2Proof.Machine.execGnssDf17Tc22 h low3 s
  | .unknownDf17Tc23 h low3 => Sys2Proof.Machine.execUnknownDf17Tc23 h low3 s
  | .unknownDf17Tc24 h low3 => Sys2Proof.Machine.execUnknownDf17Tc24 h low3 s
  | .unknownDf17Tc25 h low3 => Sys2Proof.Machine.execUnknownDf17Tc25 h low3 s
  | .unknownDf17Tc26 h low3 => Sys2Proof.Machine.execUnknownDf17Tc26 h low3 s
  | .unknownDf17Tc27 h low3 => Sys2Proof.Machine.execUnknownDf17Tc27 h low3 s
  | .unknownDf17Tc28 h low3 => Sys2Proof.Machine.execUnknownDf17Tc28 h low3 s
  | .unknownDf17Tc29 h low3 => Sys2Proof.Machine.execUnknownDf17Tc29 h low3 s
  | .unknownDf17Tc30 h low3 => Sys2Proof.Machine.execUnknownDf17Tc30 h low3 s
  | .unknownDf17Tc31 h low3 => Sys2Proof.Machine.execUnknownDf17Tc31 h low3 s
  | .unknownDf18Tc0 h low3 => Sys2Proof.Machine.execUnknownDf18Tc0 h low3 s
  | .identDf18Tc1 h low3 => Sys2Proof.Machine.execIdentDf18Tc1 h low3 s
  | .identDf18Tc2 h low3 => Sys2Proof.Machine.execIdentDf18Tc2 h low3 s
  | .identDf18Tc3 h low3 => Sys2Proof.Machine.execIdentDf18Tc3 h low3 s
  | .identDf18Tc4 h low3 => Sys2Proof.Machine.execIdentDf18Tc4 h low3 s
  | .unknownDf18Tc5 h low3 => Sys2Proof.Machine.execUnknownDf18Tc5 h low3 s
  | .unknownDf18Tc6 h low3 => Sys2Proof.Machine.execUnknownDf18Tc6 h low3 s
  | .unknownDf18Tc7 h low3 => Sys2Proof.Machine.execUnknownDf18Tc7 h low3 s
  | .unknownDf18Tc8 h low3 => Sys2Proof.Machine.execUnknownDf18Tc8 h low3 s
  | .baroDf18Tc9 h low3 => Sys2Proof.Machine.execBaroDf18Tc9 h low3 s
  | .baroDf18Tc10 h low3 => Sys2Proof.Machine.execBaroDf18Tc10 h low3 s
  | .baroDf18Tc11 h low3 => Sys2Proof.Machine.execBaroDf18Tc11 h low3 s
  | .baroDf18Tc12 h low3 => Sys2Proof.Machine.execBaroDf18Tc12 h low3 s
  | .baroDf18Tc13 h low3 => Sys2Proof.Machine.execBaroDf18Tc13 h low3 s
  | .baroDf18Tc14 h low3 => Sys2Proof.Machine.execBaroDf18Tc14 h low3 s
  | .baroDf18Tc15 h low3 => Sys2Proof.Machine.execBaroDf18Tc15 h low3 s
  | .baroDf18Tc16 h low3 => Sys2Proof.Machine.execBaroDf18Tc16 h low3 s
  | .baroDf18Tc17 h low3 => Sys2Proof.Machine.execBaroDf18Tc17 h low3 s
  | .baroDf18Tc18 h low3 => Sys2Proof.Machine.execBaroDf18Tc18 h low3 s
  | .unknownDf18Tc19 h low3 => Sys2Proof.Machine.execUnknownDf18Tc19 h low3 s
  | .gnssDf18Tc20 h low3 => Sys2Proof.Machine.execGnssDf18Tc20 h low3 s
  | .gnssDf18Tc21 h low3 => Sys2Proof.Machine.execGnssDf18Tc21 h low3 s
  | .gnssDf18Tc22 h low3 => Sys2Proof.Machine.execGnssDf18Tc22 h low3 s
  | .unknownDf18Tc23 h low3 => Sys2Proof.Machine.execUnknownDf18Tc23 h low3 s
  | .unknownDf18Tc24 h low3 => Sys2Proof.Machine.execUnknownDf18Tc24 h low3 s
  | .unknownDf18Tc25 h low3 => Sys2Proof.Machine.execUnknownDf18Tc25 h low3 s
  | .unknownDf18Tc26 h low3 => Sys2Proof.Machine.execUnknownDf18Tc26 h low3 s
  | .unknownDf18Tc27 h low3 => Sys2Proof.Machine.execUnknownDf18Tc27 h low3 s
  | .unknownDf18Tc28 h low3 => Sys2Proof.Machine.execUnknownDf18Tc28 h low3 s
  | .unknownDf18Tc29 h low3 => Sys2Proof.Machine.execUnknownDf18Tc29 h low3 s
  | .unknownDf18Tc30 h low3 => Sys2Proof.Machine.execUnknownDf18Tc30 h low3 s
  | .unknownDf18Tc31 h low3 => Sys2Proof.Machine.execUnknownDf18Tc31 h low3 s

end Sys2Proof.Machine
end

