-- ==== Sys2Proof/Machine/Commands.lean ====
section
/-! DEFINITION. The host commands (R210), each one atomic step: LOAD, DECODE, UPDATE, LOOKUP,
RENDER, PROCESS, RESET. A halted block refuses all but RESET (R219). -/

namespace Sys2Proof.Machine

/-- `LOAD(bytes)` (R211), refused when it does not fit the buffer (R212). -/
def execLoad (bytes : List Byte) (s : State) : Result :=
  if s.halted then .next (refuse s)
  else if Config.bufCap < bytes.length then .next (refuse s)
  else .next (complete (s.withFrame bytes))

/-- DECODE without its refusal (R173): the cursor to the start, the common prefix decoded, the
instruction run, or the failure taken. -/
def decodeFrame (s : State) : Result :=
  match s.frameBytes with
  | none => .fault .unwrittenFrameByte
  | some b =>
    match Sys2Proof.decode b with
    | .raise x c => .next (takeFailure x { s with cur := c })
    | .ok i c => exec i { s with cur := c }

/-- `DECODE` (R173). -/
def execDecode (s : State) : Result :=
  if s.halted then .next (refuse s)
  else thenRun (decodeFrame s) fun t => .next (complete t)

/-- `UPDATE` (R186). -/
def execUpdate (s : State) : Result :=
  if s.halted then .next (refuse s)
  else .next (complete (updateTable Config.tableCap s))

/-- `LOOKUP(a)` (R195). -/
def execLookup (a : BitVec 24) (s : State) : Result :=
  if s.halted then .next (refuse s)
  else .next { s with reply := .entry (s.table.get a) }

/-- `RENDER` (R196): ties in the free order of this RENDER (R199). -/
def execRender (s : State) : Result :=
  if s.halted then .next (refuse s)
  else
    .next { s with
      reply := .records (renderTable (Config.tieRank s.renders) s.table)
      renders := s.renders + 1 }

/-- `PROCESS(bytes)` (R214): LOAD, DECODE, and UPDATE when the frame is valid and not `Unknown`.
A byte string longer than the buffer is refused whole (log entry 8). -/
def execProcess (bytes : List Byte) (s : State) : Result :=
  if s.halted then .next (refuse s)
  else if Config.bufCap < bytes.length then .next (refuse s)
  else
    thenRun (execLoad bytes s) fun s =>
    thenRun (execDecode s) fun s =>
    if updateWanted s then execUpdate s else .next s

/-- `RESET` (R217, R260): everything at its reset value, also in a halted block. What is the host's
side of the interface stays: the commands still to come and the free tie orders already used. -/
def execReset (s : State) : Result :=
  .next { State.reset with pending := s.pending, reply := .done, renders := s.renders }

/-- The meaning of each command (R210). -/
def runCommand (c : Command) (s : State) : Result :=
  match c with
  | .load bytes => execLoad bytes s
  | .decode => execDecode s
  | .update => execUpdate s
  | .lookup a => execLookup a s
  | .render => execRender s
  | .process bytes => execProcess bytes s
  | .reset => execReset s

end Sys2Proof.Machine
end

