-- ==== Sys2Proof/Machine/Step.lean ====
section
/-! DEFINITION. One step: the next command the host has issued (R7, R8). -/

namespace Sys2Proof.Machine

/-- One step. With no command waiting the block is idle and keeps all its state (R251, R261). -/
def step (s : State) : Host.Outcome State Fault Refusal :=
  match s.pending with
  | [] => .next s
  | c :: rest => runCommand c { s with pending := rest }

/-- The state whose next step decodes the table word `w`: see `placeWord`. -/
def State.withFetchWord (s : State) (nbits w : Nat) : State := placeWord s nbits w

end Sys2Proof.Machine
end

