-- ==== Sys2Proof/Machine/Report.lean ====
section
/-! DEFINITION. The text form of a rendered list (R200), an interface note: the formatting belongs
to the external terminal rendering (R6), and its missing pieces are open parameters of Config. -/

namespace Sys2Proof.Machine

/-- The tab that separates fields. -/
def tab : Byte := 0x09

/-- `N/A`. -/
def notAvailable : List Byte := [0x4E, 0x2F, 0x41]

/-- `ICAO<TAB>Callsign<TAB>Altitude`. -/
def headerLine : List Byte :=
  [0x49, 0x43, 0x41, 0x4F] ++ [tab] ++
  [0x43, 0x61, 0x6C, 0x6C, 0x73, 0x69, 0x67, 0x6E] ++ [tab] ++
  [0x41, 0x6C, 0x74, 0x69, 0x74, 0x75, 0x64, 0x65]

/-- A number as decimal digits. -/
def decimal (n : Nat) : List Byte := (Nat.toDigits 10 n).map fun d => BitVec.ofNat 8 d.toNat

/-- One record's line: address, callsign or `N/A`, altitude with the unit suffix or `N/A`. -/
def recordLine (r : Record) : List Byte :=
  hex6 r.addr ++ [tab] ++
  (if r.callsign = [] then notAvailable else r.callsign) ++ [tab] ++
  (if r.altitude = 0 then notAvailable else decimal r.altitude.toNat ++ Config.unitSuffix)

/-- The report: a header line, then one line per record. -/
def reportText (l : List Record) : List Byte :=
  (if l = [] ∧ Config.headerWhenEmpty = false then [] else headerLine ++ Config.eol) ++
  (l.map fun r => recordLine r ++ Config.eol).flatten

end Sys2Proof.Machine
end

