-- ==== Sys2Proof/Safety.lean ====
section
/-! DEFINITION. What every reachable state satisfies, and when a list is a correct RENDER. -/

namespace Sys2Proof.Machine

/-- The bytes `ch` can give (R165). -/
def charByte (b : Byte) : Bool :=
  b == 0 || (decide (0x1B ≤ b.toNat) && decide (b.toNat ≤ 0x3F)) ||
    (decide (0x41 ≤ b.toNat) && decide (b.toNat ≤ 0x5A))

/-- A callsign text that R30 can give: at most eight bytes of R165, the last not a space (R39). -/
def textOk (t : List Byte) : Bool :=
  decide (t.length ≤ 8) && t.all charByte && t.getLast? != some 0x20

/-- The registers that hold no frame: all zero (R33). -/
def FrameRegsZero (s : State) : Prop :=
  s.rDf = 0 ∧ s.rCa = 0 ∧ s.rAddr = 0 ∧ s.rTc = 0 ∧ s.rKind = .unknown ∧ s.rCs = .fill 0 ∧
    s.rCsLen = 0 ∧ s.rAlt = 0

/-- The frame invariants (R34) with the trimming rule of R30. -/
structure FrameRegsOk (s : State) : Prop where
  df : s.rDf = 17 ∨ s.rDf = 18
  kind : s.rKind = classKind (classOf s.rTc)
  chars : s.rKind = .ident → ∀ b ∈ s.rCs.toList, charByte b = true
  len : s.rKind = .ident → s.rCsLen = BitVec.ofNat 4 (trimmedLen s.rCs)
  noText : s.rKind ≠ .ident → s.rCs = .fill 0 ∧ s.rCsLen = 0
  noAlt : s.rKind = .ident ∨ s.rKind = .unknown → s.rAlt = 0

/-- The frame buffer: canonical, inside `BUF_CAP` (R21, R22), every byte below `R_LEN` written. -/
structure BufferOk (s : State) : Prop where
  wf : s.fb.wf = true
  addrs : ∀ p ∈ s.fb, p.1 < Config.bufCap
  len : s.rLen ≤ Config.bufCap
  written : ∀ a < s.rLen, ∃ v, s.fb.read a = some v

/-- The table: canonical, within `TABLE_CAP` (R38), every callsign one that R30 gives (R39). -/
structure TableOk (t : Table) : Prop where
  wf : t.wf = true
  count : t.length ≤ Config.tableCap
  texts : ∀ p ∈ t, textOk p.2.callsign = true

/-- The invariant of the block. -/
structure Inv (s : State) : Prop where
  buffer : BufferOk s
  table : TableOk s.table
  notHalted : s.halted = false
  notMisalign : s.rStatus ≠ .errMisalign
  noFrame : s.rStatus ≠ .ok → FrameRegsZero s
  frame : s.rStatus = .ok → FrameRegsOk s

/-- A correct result of RENDER for a table (R197): exactly the visible entries (R198), each once,
in ascending order of altitude. -/
structure RenderCorrect (t : Table) (l : List Record) : Prop where
  once : (l.map Record.addr).Nodup
  exact : ∀ r, r ∈ l ↔
    ∃ e, t.get r.addr = some e ∧ (e.callsign ≠ [] ∨ e.altitude ≠ 0) ∧
      r.callsign = e.callsign ∧ r.altitude = e.altitude
  sorted : l.Pairwise fun r q => r.altitude.toNat ≤ q.altitude.toNat

end Sys2Proof.Machine
end

