-- ==== Sys2Proof/Certificates/Slice0/Obligations.lean ====
section
/-! DEFINITION. The statements for the provers. The first part holds the words they are written
in: the closed form of rule R178 and the register values of the class rules, in byte arithmetic and
apart from the model's own decoder. -/

namespace Sys2Proof.Machine

/-- Byte `k` of a buffer as a number. -/
def byteAt (b : List Byte) (k : Nat) : Nat := (b.getD k 0).toNat

/-- `ch` of rule R162 on numbers. -/
def charOfCode (c : Nat) : Byte :=
  if 1 ≤ c ∧ c ≤ 26 then BitVec.ofNat 8 (c + 64) else BitVec.ofNat 8 c

/-- `cs[k] = ch(fbits(112 + 6k, 6))` for `k = 0..7` (R178). -/
def charsOf (b : List Byte) : Eight Byte :=
  ⟨charOfCode (fbits b 112 6), charOfCode (fbits b 118 6), charOfCode (fbits b 124 6),
   charOfCode (fbits b 130 6), charOfCode (fbits b 136 6), charOfCode (fbits b 142 6),
   charOfCode (fbits b 148 6), charOfCode (fbits b 154 6)⟩

/-- The number of consecutive `0x20` bytes at the end (R30). -/
def trailingSpaces (cs : List Byte) : Nat := (cs.reverse.takeWhile (· == 0x20)).length

/-- `b[14]*16 + b[15] div 16` (R178). -/
def rawAltitude (b : List Byte) : BitVec 12 := BitVec.ofNat 12 (byteAt b 14 * 16 + byteAt b 15 / 16)

/-- `b[10]*65536 + b[11]*256 + b[12]` (R84). -/
def addressOf (b : List Byte) : BitVec 24 :=
  BitVec.ofNat 24 (byteAt b 10 * 65536 + byteAt b 11 * 256 + byteAt b 12)

/-- The closed form of DECODE (R178). -/
def closedForm (b : List Byte) : Except Failure Frame :=
  let df := byteAt b 9 / 8
  let tc := byteAt b 13 / 8
  let frame := Frame.mk (BitVec.ofNat 5 df) (BitVec.ofNat 3 (byteAt b 9 % 8)) (addressOf b)
  if b.length < 16 then .error .exhausted
  else if byteAt b 0 ≠ 0x1A ∨ byteAt b 1 ≠ 0x33 then .error .notAFrame
  else if df ≠ 17 ∧ df ≠ 18 then .error .badDf
  else if 1 ≤ tc ∧ tc < 5 then
    if b.length < 20 then .error .exhausted
    else
      let cs := (charsOf b).toList
      .ok (frame (.identification (cs.take (8 - trailingSpaces cs))))
  else if 9 ≤ tc ∧ tc < 19 then .ok (frame (.barometricAltitude (rawAltitude b)))
  else if 20 ≤ tc ∧ tc < 23 then .ok (frame (.gnssAltitude (rawAltitude b)))
  else .ok (frame (.unknown (BitVec.ofNat 5 tc)))

/-- The state with the command `c` next, in a block that is not halted, over the buffer `b`. -/
structure Ready (s : State) (c : Command) (rest : List Command) (b : List Byte) : Prop where
  pending : s.pending = c :: rest
  notHalted : s.halted = false
  buffer : s.frameBytes = some b

/-- Two states whose result registers (R24 to R31) agree. -/
structure SameResult (s t : State) : Prop where
  status : s.rStatus = t.rStatus
  df : s.rDf = t.rDf
  ca : s.rCa = t.rCa
  addr : s.rAddr = t.rAddr
  tc : s.rTc = t.rTc
  kind : s.rKind = t.rKind
  cs : s.rCs = t.rCs
  csLen : s.rCsLen = t.rCsLen
  alt : s.rAlt = t.rAlt

/-- The state after an IDENT frame over the buffer `b` (R143, R175). -/
def identAfter (df tc : BitVec 5) (h : Head) (b : List Byte) (s : State) : State :=
  { s with
    cur := ⟨20, 0⟩, rStatus := .ok, rDf := df, rCa := h.ca, rAddr := h.addr, rTc := tc
    rKind := .ident, rCs := charsOf b
    rCsLen := BitVec.ofNat 4 (8 - trailingSpaces (charsOf b).toList), rAlt := 0 }

/-- The state after an altitude frame of kind `k` over the buffer `b` (R144, R145, R175). -/
def altAfter (k : Kind) (df tc : BitVec 5) (h : Head) (b : List Byte) (s : State) : State :=
  { s with
    cur := ⟨15, 4⟩, rStatus := .ok, rDf := df, rCa := h.ca, rAddr := h.addr, rTc := tc
    rKind := k, rCs := .fill 0, rCsLen := 0, rAlt := rawAltitude b }

/-- The state after an UNKNOWN frame (R148, R175). -/
def unknownAfter (df tc : BitVec 5) (h : Head) (s : State) : State :=
  { s with
    rStatus := .ok, rDf := df, rCa := h.ca, rAddr := h.addr, rTc := tc
    rKind := .unknown, rCs := .fill 0, rCsLen := 0, rAlt := 0 }

/-- The abstract Frame that a frame in mnemonic form stands for (R32, R103). -/
def frameOfText : FrameText → Frame
  | .ident df _ h _ codes =>
    let cs := (codes.map fun c => charOfCode c.toNat).toList
    ⟨df, h.ca, h.addr, .identification (cs.take (8 - trailingSpaces cs))⟩
  | .baro df _ h _ _ alt => ⟨df, h.ca, h.addr, .barometricAltitude alt⟩
  | .gnss df _ h _ _ alt => ⟨df, h.ca, h.addr, .gnssAltitude alt⟩
  | .unknown df tc h _ => ⟨df, h.ca, h.addr, .unknown tc⟩

/-- The type code written in a frame's mnemonic form. -/
def tcOfText : FrameText → BitVec 5
  | .ident _ tc _ _ _ => tc
  | .baro _ tc _ _ _ _ => tc
  | .gnss _ tc _ _ _ _ => tc
  | .unknown _ tc _ _ => tc

/-- The mask every row of the opcode table has (R97). -/
def rowMask : List Byte := [0xFF, 0xFF, 0, 0, 0, 0, 0, 0, 0, 0xF8, 0, 0, 0, 0xF8]

/-- The match word of a row: `1A33 00.. (DF*8) 000000 (TC*8)` (R97). -/
def rowMatch (df tc : BitVec 5) : List Byte :=
  [0x1A, 0x33, 0, 0, 0, 0, 0, 0, 0, BitVec.ofNat 8 (df.toNat * 8), 0, 0, 0,
   BitVec.ofNat 8 (tc.toNat * 8)]

/-- The bits of frame bytes 0 to 19 that a frame of type code `tc` depends on (R91). -/
def careMask (tc : Nat) : List Byte :=
  [0xFF, 0xFF, 0, 0, 0, 0, 0, 0, 0, 0xFF, 0xFF, 0xFF, 0xFF, 0xF8] ++
  (if 1 ≤ tc ∧ tc < 5 then [0xFF, 0xFF, 0xFF, 0xFF, 0xFF, 0xFF]
   else if 9 ≤ tc ∧ tc < 19 ∨ 20 ≤ tc ∧ tc < 23 then [0xFF, 0xF0, 0, 0, 0, 0]
   else [0, 0, 0, 0, 0, 0])

/-- The entry an UPDATE leaves for its address, from the entry `e` found or the default (R186). -/
def entryAfter (s : State) (e : Entry) : Entry :=
  if s.rKind = .ident then ⟨s.rCs.toList.take s.rCsLen.toNat, e.altitude⟩
  else ⟨e.callsign, s.rAlt⟩

end Sys2Proof.Machine

open Sys2Proof Sys2Proof.Machine

/-! ## Frame bits and the cursor -/

/-- R12: a field is the sum of its frame bits, the most significant first. -/
def Obligations.FieldIsSumOfItsFrameBits : Prop :=
  ∀ (b : List Byte) (n w : Nat), 1 ≤ w → n + w ≤ 8 * b.length →
    fbits b n w = ((List.range w).map fun i =>
      (if (b.getD ((n + i) / 8) 0).getLsbD (7 - (n + i) % 8) then 1 else 0) * 2 ^ (w - 1 - i)).sum

/-- R56 (derived in the spec from R12): reading two adjacent fields agrees with reading one. -/
def Obligations.AdjacentFieldsAgreeWithOneField : Prop :=
  (∀ (b : List Byte) (n x y : Nat), fbits b n (x + y) = fbits b n x * 2 ^ y + fbits b (n + x) y) ∧
  (∀ (b : List Byte) (c : Cursor) (v : BitVec 12) (d : Cursor), take b 12 c = .ok v d →
    (∃ v1 v2 m, take b 8 c = .ok v1 m ∧ take b 4 m = .ok v2 d ∧
      v.toNat = v1.toNat * 16 + v2.toNat) ∧
    (∃ v1 v2 m, take b 4 c = .ok v1 m ∧ take b 8 m = .ok v2 d ∧
      v.toNat = v1.toNat * 256 + v2.toNat)) ∧
  (∀ (b : List Byte) (c d : Cursor), skip b 3 c = .ok () d →
    ∃ m, skip b 2 c = .ok () m ∧ skip b 1 m = .ok () d)

/-- R111: `take(w)` for 1 ≤ w ≤ 32, its exhaustion test, value and cursor. -/
def Obligations.TakeReadsOrIsExhausted : Prop :=
  ∀ (b : List Byte) (w : Nat) (hw : 0 < w ∧ w ≤ 32) (c : Cursor),
    (8 * b.length - (8 * c.byte + c.off.val) < w → take b w c hw = .raise .exhausted c) ∧
    (¬ 8 * b.length - (8 * c.byte + c.off.val) < w →
      ∃ v d, take b w c hw = .ok v d ∧ v.toNat = fbits b (8 * c.byte + c.off.val) w ∧
        d.byte = (8 * c.byte + c.off.val + w) / 8 ∧
        d.off.val = (8 * c.byte + c.off.val + w) % 8 ∧
        (8 * c.byte + c.off.val + w = 8 * b.length → d = ⟨b.length, 0⟩))

/-- R59 with the extractors (R124, R130, R132, R134, R135, R136, R161): every stage of the decode
ends where the table of R59 says, with the field of its bytes, whatever the bytes are. -/
def Obligations.StagesReadTheirFieldsAndLandWhereTabled : Prop :=
  ∀ b : List Byte, 20 ≤ b.length → byteAt b 0 = 0x1A → byteAt b 1 = 0x33 →
    hdr b ⟨0, 0⟩ = .ok () ⟨9, 0⟩ ∧
    dfca b ⟨9, 0⟩ =
      .ok (BitVec.ofNat 5 (byteAt b 9 / 8), BitVec.ofNat 3 (byteAt b 9 % 8)) ⟨10, 0⟩ ∧
    icao b ⟨10, 0⟩ = .ok (addressOf b) ⟨13, 0⟩ ∧
    typecode b ⟨13, 0⟩ = .ok (BitVec.ofNat 5 (byteAt b 13 / 8)) ⟨13, 5⟩ ∧
    category b ⟨13, 5⟩ = .ok (BitVec.ofNat 3 (byteAt b 13 % 8)) ⟨14, 0⟩ ∧
    altField b ⟨13, 5⟩ = .ok (rawAltitude b) ⟨15, 4⟩ ∧
    callsign b ⟨14, 0⟩ = .ok (charsOf b) ⟨20, 0⟩

/-! ## Decoding and encoding -/

/-- Words written out from the field tables (R81, R83 to R85, R97) decode to their instruction. -/
def Obligations.SampleWordsDecode : Prop :=
  decode [0x1A, 0x33, 0, 0, 0, 0, 0, 0, 0, 0x8D, 0x84, 0x1B, 0xD1, 0x20, 0x2C, 0xC3] =
    .ok (.identDf17Tc4 ⟨0, 0, 5, 0x841BD1⟩ 0) ⟨13, 5⟩ ∧
  decode [0x1A, 0x33, 1, 2, 3, 4, 5, 6, 0xFF, 0x8D, 0x40, 0x62, 0x1D, 0x58, 0xC3, 0x82] =
    .ok (.baroDf17Tc11 ⟨0x010203040506, 0xFF, 5, 0x40621D⟩ 0) ⟨13, 5⟩ ∧
  decode [0x1A, 0x33, 0, 0, 0, 0, 0, 0, 0, 0x90, 0xA0, 0, 4, 0xA7, 0, 0x0F] =
    .ok (.gnssDf18Tc20 ⟨0, 0, 0, 0xA00004⟩ 7) ⟨13, 5⟩ ∧
  decode [0x1A, 0x33, 0, 0, 0, 0, 0, 0, 0, 0x8D, 0x84, 0x1B, 0xD1, 0x9D, 0, 0] =
    .ok (.unknownDf17Tc19 ⟨0, 0, 5, 0x841BD1⟩ 5) ⟨13, 5⟩

/-- Decoding the 14 bytes of any instruction, whatever bytes follow, gives the instruction back. -/
def Obligations.DecodeOfEncodeIsTheInstruction : Prop :=
  ∀ (i : Instr) (tail : List Byte), 2 ≤ tail.length →
    decode (encode i ++ tail) = .ok i ⟨13, 5⟩

/-- Encoding a decoded instruction gives the buffer's first 14 bytes back. -/
def Obligations.EncodeOfDecodeIsTheBytes : Prop :=
  ∀ (b : List Byte) (i : Instr) (c : Cursor), decode b = .ok i c →
    encode i = b.take 14 ∧ i.wf = true ∧ c = ⟨13, 5⟩ ∧ 16 ≤ b.length

/-- R97: a buffer of at least 16 bytes selects a row exactly when its masked bytes are the row's
match word. -/
def Obligations.RowIsSelectedByMaskAndMatch : Prop :=
  ∀ (i : Instr) (b : List Byte), 16 ≤ b.length →
    ((∃ j c, decode b = .ok j c ∧ j.df = i.df ∧ j.tc = i.tc) ↔
      List.zipWith (· &&& ·) (b.take 14) rowMask = rowMatch i.df i.tc)

/-- R141: the class of a decoded frame is the range its type code lies in. -/
def Obligations.ClassIsTheRangeOfTheTypeCode : Prop :=
  (∀ (b : List Byte) (i : Instr) (c : Cursor), decode b = .ok i c →
    i.tc.toNat = byteAt b 13 / 8 ∧
    (i.cls = .ident ↔ 1 ≤ i.tc.toNat ∧ i.tc.toNat < 5) ∧
    (i.cls = .baro ↔ 9 ≤ i.tc.toNat ∧ i.tc.toNat < 19) ∧
    (i.cls = .gnss ↔ 20 ≤ i.tc.toNat ∧ i.tc.toNat < 23) ∧
    (i.cls = .unknown ↔ i.tc.toNat ∈ [0, 5, 6, 7, 8, 19, 23, 24, 25, 26, 27, 28, 29, 30, 31])) ∧
  ((List.range 32).countP fun k => classOf (BitVec.ofNat 5 k) == .ident) = 4 ∧
  ((List.range 32).countP fun k => classOf (BitVec.ofNat 5 k) == .baro) = 10 ∧
  ((List.range 32).countP fun k => classOf (BitVec.ofNat 5 k) == .gnss) = 3 ∧
  ((List.range 32).countP fun k => classOf (BitVec.ofNat 5 k) == .unknown) = 15

/-- R103: DECODE of a frame assembled from its mnemonic form, with any bytes after it, gives the
frame with every operand as written. -/
def Obligations.AssembledFrameDecodesToItsOperands : Prop :=
  ∀ (f : FrameText) (extra : List Byte) (s : State) (rest : List Command), f.wf = true →
    Ready s .decode rest (assemble f ++ extra) →
    ∃ t, step s = .next t ∧ t.frame = some (frameOfText f) ∧ t.rTc = tcOfText f

/-! ## DECODE: outcomes -/

/-- R121: a buffer of fewer than 16 bytes is exhausted whatever its bytes, before any byte is
looked at; a 16-byte buffer is not stopped by this test. -/
def Obligations.ShortBufferIsExhausted : Prop :=
  (∀ b : List Byte, b.length < 16 → decode b = .raise .exhausted ⟨0, 0⟩) ∧
  (∀ b : List Byte, 16 ≤ b.length → ∀ c, decode b ≠ .raise .exhausted c)

/-- R122: with at least 16 bytes present, the outcome is `NOT_A_FRAME` exactly when one of the two
marker bytes differs. -/
def Obligations.MarkerMismatchIsNotAFrame : Prop :=
  ∀ b : List Byte, 16 ≤ b.length →
    ((∃ c, decode b = .raise .notAFrame c) ↔ byteAt b 0 ≠ 0x1A ∨ byteAt b 1 ≠ 0x33)

/-- R172, R228: with the markers matched, the outcome is `ERR_BAD_DF` exactly for the formats other
than 17 and 18, and the address bytes have been consumed by then. -/
def Obligations.UnacceptedFormatIsRejectedAfterTheAddress : Prop :=
  ∀ b : List Byte, 16 ≤ b.length → byteAt b 0 = 0x1A → byteAt b 1 = 0x33 →
    (decode b = .raise .badDf ⟨13, 0⟩ ↔ byteAt b 9 / 8 ≠ 17 ∧ byteAt b 9 / 8 ≠ 18) ∧
    ∀ c, decode b = .raise .badDf c → c = ⟨13, 0⟩

/-- R178 (derived in the spec from R173): DECODE, stage by stage through the cursor, equals the
closed form. -/
def Obligations.DecodeEqualsItsClosedForm : Prop :=
  ∀ (s : State) (rest : List Command) (b : List Byte), Ready s .decode rest b →
    ∃ t, step s = .next t ∧
      match closedForm b with
      | .ok f => t.rStatus = .ok ∧ t.frame = some f ∧ t.rTc = BitVec.ofNat 5 (byteAt b 13 / 8)
      | .error x => t.rStatus = failureStatus x ∧ t.frame = none

/-- R179, R238: the status code of DECODE by input, in the order of the tests. -/
def Obligations.DecodeStatusByPriority : Prop :=
  ∀ (s : State) (rest : List Command) (b : List Byte), Ready s .decode rest b →
    ∃ t, step s = .next t ∧
      t.regImage.status =
        if b.length < 16 then 4
        else if byteAt b 0 ≠ 0x1A ∨ byteAt b 1 ≠ 0x33 then 2
        else if byteAt b 9 / 8 ≠ 17 ∧ byteAt b 9 / 8 ≠ 18 then 3
        else if (1 ≤ byteAt b 13 / 8 ∧ byteAt b 13 / 8 < 5) ∧ b.length < 20 then 4
        else 1

/-- R33: every outcome other than `ST_OK` leaves all frame registers zero. -/
def Obligations.FailedDecodeShowsNoFrame : Prop :=
  ∀ (s t : State) (rest : List Command), s.pending = .decode :: rest → s.halted = false →
    step s = .next t → t.rStatus ≠ .ok →
    t.rDf = 0 ∧ t.rCa = 0 ∧ t.rAddr = 0 ∧ t.rTc = 0 ∧ t.rKind = .unknown ∧
      t.rCs = ⟨0, 0, 0, 0, 0, 0, 0, 0⟩ ∧ t.rCsLen = 0 ∧ t.rAlt = 0 ∧ t.frame = none

/-- Taking a failure (R239, R226). A DECODE that ends without a frame wrote its code to `R_STATUS`,
zero to every frame register, `HALTED` only for a misalignment, and nothing else but the cursor; a
failure of the common prefix leaves its own code. That the cursor stays where the failing stage
stood is the model's reading of R116 (c), log entry 9 (DEDUCED); `pending` and `reply` are the
model's own (log entry 4). -/
def Obligations.FailureEntryWritesOnlyTheResult : Prop :=
  (∀ (s t : State) (rest : List Command), s.pending = .decode :: rest → s.halted = false →
    step s = .next t → t.rStatus ≠ .ok →
    t.rStatus ∈ [.notAFrame, .errBadDf, .errExhausted, .errMisalign] ∧
    t = { s with
      pending := rest, reply := t.reply, cur := t.cur, rStatus := t.rStatus, rDf := 0, rCa := 0
      rAddr := 0, rTc := 0, rKind := .unknown, rCs := ⟨0, 0, 0, 0, 0, 0, 0, 0⟩, rCsLen := 0
      rAlt := 0, halted := t.rStatus == .errMisalign }) ∧
  (∀ (s : State) (rest : List Command) (b : List Byte) (x : Failure) (c : Cursor),
    Ready s .decode rest b → decode b = .raise x c →
    ∃ t, step s = .next t ∧ t.rStatus = failureStatus x ∧ t.cur = c)

/-- R34 (derived in the spec): what holds of the registers after a successful DECODE, from any
state at all. -/
def Obligations.DecodedFrameSatisfiesFrameRules : Prop :=
  ∀ (s t : State) (rest : List Command), s.pending = .decode :: rest → s.halted = false →
    step s = .next t → t.rStatus = .ok →
    (t.rDf = 17 ∨ t.rDf = 18) ∧
    (t.rKind = .ident ↔ 1 ≤ t.rTc.toNat ∧ t.rTc.toNat < 5) ∧
    (t.rKind = .baro ↔ 9 ≤ t.rTc.toNat ∧ t.rTc.toNat < 19) ∧
    (t.rKind = .gnss ↔ 20 ≤ t.rTc.toNat ∧ t.rTc.toNat < 23) ∧
    (t.rKind = .ident → (∀ v ∈ t.rCs.toList, v.toNat = 0 ∨ (0x1B ≤ v.toNat ∧ v.toNat ≤ 0x3F) ∨
      (0x41 ≤ v.toNat ∧ v.toNat ≤ 0x5A)) ∧ t.rCsLen.toNat ≤ 8 ∧ t.rAlt = 0 ∧
      (t.rCsLen ≠ 0 → t.rCs.toList.getD (t.rCsLen.toNat - 1) 0 ≠ 0x20)) ∧
    (t.rKind ≠ .ident → t.rCs = ⟨0, 0, 0, 0, 0, 0, 0, 0⟩ ∧ t.rCsLen = 0) ∧
    (t.rKind = .unknown → t.rAlt = 0)

/-- R176: DECODE depends on the buffer alone, always ends, and reads at most 160 bits; decoding the
same buffer again gives the same result. -/
def Obligations.DecodeIsAFunctionOfTheBuffer : Prop :=
  ∀ (s u : State) (rest rest' : List Command) (b : List Byte),
    Ready s .decode rest b → Ready u .decode rest' b →
    ∃ t v, step s = .next t ∧ step u = .next v ∧ SameResult t v ∧ t.cur = v.cur ∧
      t.cur.pos ≤ 160 ∧
      (rest = [.decode] → ∃ w, step t = .next w ∧ SameResult t w ∧ t.frame = w.frame)

/-- R91 (derived in the spec): two buffers that differ only in don't-care bits decode alike. -/
def Obligations.DontCareBitsDoNotMatter : Prop :=
  ∀ (s u : State) (rest rest' : List Command) (b d : List Byte),
    Ready s .decode rest b → Ready u .decode rest' d → b.length = d.length →
    (∀ k < 20, b.getD k 0 &&& (careMask (byteAt b 13 / 8)).getD k 0 =
      d.getD k 0 &&& (careMask (byteAt b 13 / 8)).getD k 0) →
    ∃ t v, step s = .next t ∧ step u = .next v ∧ SameResult t v

/-- R177: bytes beyond the frame's required length do not change the result. -/
def Obligations.TrailingBytesAreIgnored : Prop :=
  ∀ (s u : State) (rest rest' : List Command) (b extra : List Byte),
    Ready s .decode rest b → Ready u .decode rest' (b ++ extra) →
    20 ≤ b.length ∨ (16 ≤ b.length ∧ ¬ (1 ≤ byteAt b 13 / 8 ∧ byteAt b 13 / 8 < 5)) →
    ∃ t v, step s = .next t ∧ step u = .next v ∧ SameResult t v

/-- R166 (derived in the spec): which character a cut IDENT frame fails at. That the cursor stays at
the start of that character is the model's reading of R116 (c), log entry 9 (DEDUCED). -/
def Obligations.CutIdentificationFailsAtItsCharacter : Prop :=
  ∀ (s : State) (rest : List Command) (b : List Byte) (n k : Nat), Ready s .decode rest b →
    byteAt b 0 = 0x1A → byteAt b 1 = 0x33 → byteAt b 9 / 8 = 17 ∨ byteAt b 9 / 8 = 18 →
    1 ≤ byteAt b 13 / 8 ∧ byteAt b 13 / 8 < 5 →
    b.length = n → (n, k) ∈ [(16, 3), (17, 5), (18, 6), (19, 7)] →
    ∃ t, step s = .next t ∧ t.rStatus = .errExhausted ∧ t.frame = none ∧
      t.cur.pos = 112 + 6 * (k - 1)

/-- R234, R115: an IDENT frame run with the cursor off its place takes `ERR_MISALIGN`, which clears
the frame registers and sets `HALTED`. No step gets there (`MisalignmentIsUnreachable`). -/
def Obligations.MisalignedIdentificationHalts : Prop :=
  ∀ (i : Instr) (s : State) (b : List Byte), i.cls = .ident → s.frameBytes = some b →
    s.cur.off.val ≠ 5 → s.cur.pos + 3 ≤ 8 * b.length →
    ∃ t, exec i s = .next t ∧ t.rStatus = .errMisalign ∧ t.halted = true ∧ FrameRegsZero t ∧
      t.table = s.table ∧ t.fb = s.fb ∧ t.rLen = s.rLen ∧ t.rUpd = s.rUpd

/-- R235 (derived in the spec): from every state, reachable or not, no step raises `ERR_MISALIGN`
or sets `HALTED`. -/
def Obligations.MisalignmentIsUnreachable : Prop :=
  ∀ s t : State, step s = .next t →
    (s.halted = false → t.halted = false) ∧
    (s.rStatus ≠ .errMisalign → t.rStatus ≠ .errMisalign)

/-! ## The meanings of the rows -/

/-- R143: an IDENT row, run at its payload, completes with the eight characters and the trimmed
length when the buffer holds 20 bytes, and takes `ERR_EXHAUSTED` when it does not. -/
def Obligations.IdentificationRowsComplete : Prop :=
  ∀ (h : Head) (l : BitVec 3) (s : State) (b : List Byte) (df tc : BitVec 5) (i : Instr),
    (df, tc, i) ∈ (
    [(17, 1, .identDf17Tc1 h l), (17, 2, .identDf17Tc2 h l), (17, 3, .identDf17Tc3 h l),
     (17, 4, .identDf17Tc4 h l), (18, 1, .identDf18Tc1 h l), (18, 2, .identDf18Tc2 h l),
     (18, 3, .identDf18Tc3 h l), (18, 4, .identDf18Tc4 h l)] : List (BitVec 5 × BitVec 5 × Instr)) →
    s.cur = ⟨13, 5⟩ → s.frameBytes = some b →
    (20 ≤ b.length → exec i s = .next (identAfter df tc h b s)) ∧
    (b.length < 20 → ∃ t, exec i s = .next t ∧ t.rStatus = .errExhausted ∧ FrameRegsZero t ∧
      t.fb = s.fb ∧ t.rLen = s.rLen ∧ t.rUpd = s.rUpd ∧ t.halted = s.halted ∧
      t.table = s.table)

/-- R144: a BARO row, run at its payload over 16 bytes or more, completes with the raw altitude. -/
def Obligations.BarometricRowsComplete : Prop :=
  ∀ (h : Head) (l : BitVec 3) (s : State) (b : List Byte) (df tc : BitVec 5) (i : Instr),
    (df, tc, i) ∈ (
    [(17, 9, .baroDf17Tc9 h l), (17, 10, .baroDf17Tc10 h l), (17, 11, .baroDf17Tc11 h l),
     (17, 12, .baroDf17Tc12 h l), (17, 13, .baroDf17Tc13 h l), (17, 14, .baroDf17Tc14 h l),
     (17, 15, .baroDf17Tc15 h l), (17, 16, .baroDf17Tc16 h l), (17, 17, .baroDf17Tc17 h l),
     (17, 18, .baroDf17Tc18 h l), (18, 9, .baroDf18Tc9 h l), (18, 10, .baroDf18Tc10 h l),
     (18, 11, .baroDf18Tc11 h l), (18, 12, .baroDf18Tc12 h l), (18, 13, .baroDf18Tc13 h l),
     (18, 14, .baroDf18Tc14 h l), (18, 15, .baroDf18Tc15 h l), (18, 16, .baroDf18Tc16 h l),
     (18, 17, .baroDf18Tc17 h l), (18, 18, .baroDf18Tc18 h l)] : List (BitVec 5 × BitVec 5 × Instr)) →
    s.cur = ⟨13, 5⟩ → s.frameBytes = some b → 16 ≤ b.length →
    exec i s = .next (altAfter .baro df tc h b s)

/-- R145: a GNSS row completes like a BARO row, as another variant. -/
def Obligations.GnssRowsComplete : Prop :=
  ∀ (h : Head) (l : BitVec 3) (s : State) (b : List Byte) (df tc : BitVec 5) (i : Instr),
    (df, tc, i) ∈ (
    [(17, 20, .gnssDf17Tc20 h l), (17, 21, .gnssDf17Tc21 h l), (17, 22, .gnssDf17Tc22 h l),
     (18, 20, .gnssDf18Tc20 h l), (18, 21, .gnssDf18Tc21 h l), (18, 22, .gnssDf18Tc22 h l)] : List (BitVec 5 × BitVec 5 × Instr)) →
    s.cur = ⟨13, 5⟩ → s.frameBytes = some b → 16 ≤ b.length →
    exec i s = .next (altAfter .gnss df tc h b s)

/-- R148: an UNKNOWN row completes in every state, reads no further byte and leaves the cursor. -/
def Obligations.UnknownRowsComplete : Prop :=
  ∀ (h : Head) (l : BitVec 3) (s : State) (df tc : BitVec 5) (i : Instr),
    (df, tc, i) ∈ (
    [(17, 0, .unknownDf17Tc0 h l), (17, 5, .unknownDf17Tc5 h l), (17, 6, .unknownDf17Tc6 h l),
     (17, 7, .unknownDf17Tc7 h l), (17, 8, .unknownDf17Tc8 h l), (17, 19, .unknownDf17Tc19 h l),
     (17, 23, .unknownDf17Tc23 h l), (17, 24, .unknownDf17Tc24 h l),
     (17, 25, .unknownDf17Tc25 h l), (17, 26, .unknownDf17Tc26 h l),
     (17, 27, .unknownDf17Tc27 h l), (17, 28, .unknownDf17Tc28 h l),
     (17, 29, .unknownDf17Tc29 h l), (17, 30, .unknownDf17Tc30 h l),
     (17, 31, .unknownDf17Tc31 h l), (18, 0, .unknownDf18Tc0 h l), (18, 5, .unknownDf18Tc5 h l),
     (18, 6, .unknownDf18Tc6 h l), (18, 7, .unknownDf18Tc7 h l), (18, 8, .unknownDf18Tc8 h l),
     (18, 19, .unknownDf18Tc19 h l), (18, 23, .unknownDf18Tc23 h l),
     (18, 24, .unknownDf18Tc24 h l), (18, 25, .unknownDf18Tc25 h l),
     (18, 26, .unknownDf18Tc26 h l), (18, 27, .unknownDf18Tc27 h l),
     (18, 28, .unknownDf18Tc28 h l), (18, 29, .unknownDf18Tc29 h l),
     (18, 30, .unknownDf18Tc30 h l), (18, 31, .unknownDf18Tc31 h l)] : List (BitVec 5 × BitVec 5 × Instr)) →
    exec i s = .next (unknownAfter df tc h s)

/-- R44, R239 (c): the frame of every row. A frame writes the cursor and the result registers;
every byte of memory reads as before, and the table, `R_LEN`, `R_UPD` and the host's side are
unchanged; `HALTED` changes only with `ERR_MISALIGN`. -/
def Obligations.RowsWriteOnlyCursorAndResult : Prop :=
  ∀ (i : Instr) (s t : State), exec i s = .next t →
    (∀ a, t.fb.read a = s.fb.read a) ∧ t.fb = s.fb ∧ t.rLen = s.rLen ∧ t.table = s.table ∧
    t.rUpd = s.rUpd ∧ t.pending = s.pending ∧ t.reply = s.reply ∧ t.renders = s.renders ∧
    (t.halted = s.halted ∨ t.rStatus = .errMisalign) ∧
    (i.cls = .unknown → t.cur = s.cur)

/-- A DECODE step runs exactly the instruction that the buffer's bytes decode to, from the cursor
after its type code, and then hands the result to the host. -/
def Obligations.StepRunsTheDecodedInstruction : Prop :=
  ∀ (s : State) (rest : List Command) (b : List Byte) (i : Instr) (c : Cursor),
    Ready s .decode rest b → decode b = .ok i c →
    step s = match exec i { s with pending := rest, cur := c } with
      | .next t => .next { t with reply := .done }
      | .fault f => .fault f
      | .refused r => .refused r

/-! ## Callsign and address text -/

/-- R162: the character mapping, and that it is injective. -/
def Obligations.CharacterMapping : Prop :=
  (∀ c : BitVec 6, (1 ≤ c.toNat ∧ c.toNat ≤ 26 →
      (ch c).toNat = c.toNat + 64 ∧ ch c = c.setWidth 8 ||| 0x40) ∧
    (¬ (1 ≤ c.toNat ∧ c.toNat ≤ 26) → (ch c).toNat = c.toNat)) ∧
  (∀ c d : BitVec 6, ch c = ch d → c = d)

/-- R164, R30: trimming removes exactly the spaces at the end. -/
def Obligations.TrimmingRemovesOnlyTrailingSpaces : Prop :=
  ∀ cs : Eight Byte,
    trimmedLen cs ≤ 8 ∧
    cs.toList = cs.toList.take (trimmedLen cs) ++ List.replicate (8 - trimmedLen cs) 0x20 ∧
    (cs.toList.take (trimmedLen cs)).getLast? ≠ some 0x20

/-- R17 (derived in the spec): `hex6` is a bijection between addresses and strings of six of the
sixteen digit characters. -/
def Obligations.AddressTextIsABijection : Prop :=
  (∀ a c : BitVec 24, hex6 a = hex6 c → a = c) ∧
  (∀ a : BitVec 24, (hex6 a).length = 6 ∧ ∀ v ∈ hex6 a,
    (0x30 ≤ v.toNat ∧ v.toNat ≤ 0x39) ∨ (0x61 ≤ v.toNat ∧ v.toNat ≤ 0x66)) ∧
  (∀ t : List Byte, t.length = 6 → (∀ v ∈ t,
    (0x30 ≤ v.toNat ∧ v.toNat ≤ 0x39) ∨ (0x61 ≤ v.toNat ∧ v.toNat ≤ 0x66)) →
    ∃ a, hex6 a = t)

/-! ## The aggregation table -/

/-- R186: UPDATE, case by case, with its frame. `pending` and `reply` are the model's own (log
entry 4). -/
def Obligations.UpdateFollowsItsCases : Prop :=
  ∀ (s : State) (rest : List Command), s.pending = .update :: rest →
    (s.halted = true → step s = .next { s with pending := rest, reply := .refused }) ∧
    (s.halted = false → ∃ t, step s = .next t ∧
      t = { s with pending := rest, reply := t.reply, table := t.table, rUpd := t.rUpd } ∧
      (s.rStatus ≠ .ok ∨ s.rKind = .unknown → t.table = s.table ∧ t.rUpd = .noop) ∧
      (s.rStatus = .ok → s.rKind ≠ .unknown →
        (s.table.get s.rAddr = none → s.table.length = 2 ^ 24 →
          t.table = s.table ∧ t.rUpd = .full) ∧
        (s.table.get s.rAddr = none → s.table.length ≠ 2 ^ 24 →
          t.rUpd = .done ∧ t.table.get s.rAddr = some (entryAfter s ⟨[], 0⟩) ∧
          ∀ a, a ≠ s.rAddr → t.table.get a = s.table.get a) ∧
        (∀ e, s.table.get s.rAddr = some e →
          t.rUpd = .done ∧ t.table.get s.rAddr = some (entryAfter s e) ∧
          ∀ a, a ≠ s.rAddr → t.table.get a = s.table.get a)))

/-- R187: an `Unknown` frame changes nothing in the table and creates no entry. -/
def Obligations.UnknownFrameCreatesNoEntry : Prop :=
  ∀ (s : State) (rest : List Command), s.pending = .update :: rest → s.halted = false →
    s.rStatus = .ok → s.rKind = .unknown →
    ∃ t, step s = .next t ∧ t.table = s.table ∧
      (s.table.get s.rAddr = none → t.table.get s.rAddr = none)

/-- R193: an identification and an altitude update for one new address, in either order, leave one
entry with both fields. -/
def Obligations.TwoUpdatesFillBothFields : Prop :=
  ∀ (s u : State) (rest rest' : List Command), TableOk s.table →
    s.pending = .update :: rest → u.pending = .update :: rest' →
    s.halted = false → u.halted = false → s.rStatus = .ok → u.rStatus = .ok →
    s.rAddr = u.rAddr → s.table.get s.rAddr = none →
    (s.rKind = .ident → u.rKind = .baro ∨ u.rKind = .gnss →
      ∃ t v, step s = .next t ∧ step { u with table := t.table } = .next v ∧
        v.table.get s.rAddr = some ⟨s.callsignText, u.rAlt⟩ ∧
        v.table.length = s.table.length + 1) ∧
    (s.rKind = .baro ∨ s.rKind = .gnss → u.rKind = .ident →
      ∃ t v, step s = .next t ∧ step { u with table := t.table } = .next v ∧
        v.table.get s.rAddr = some ⟨u.callsignText, s.rAlt⟩ ∧
        v.table.length = s.table.length + 1)

/-- R194: UPDATE again with the same frame leaves the table of the first one, and format,
capability and type code do not affect the table. -/
def Obligations.RepeatedUpdateChangesNothing : Prop :=
  (∀ (s : State) (rest : List Command), s.pending = .update :: .update :: rest →
    s.halted = false →
    ∃ t v, step s = .next t ∧ step t = .next v ∧ v.table = t.table ∧ v.rUpd = t.rUpd) ∧
  (∀ (s : State) (rest : List Command) (df tc : BitVec 5) (ca : BitVec 3),
    s.pending = .update :: rest → s.halted = false →
    ∃ t v, step s = .next t ∧ step { s with rDf := df, rCa := ca, rTc := tc } = .next v ∧
      v.table = t.table)

/-- R191: with 2^24 entries the table is never full; with any smaller capacity a new address on a
full table changes nothing and reports `UPD_FULL`, and present addresses still update. -/
def Obligations.TableIsNeverFull : Prop :=
  (∀ (s : State) (rest : List Command), TableOk s.table → s.pending = .update :: rest →
    s.halted = false → ∃ t, step s = .next t ∧ t.rUpd ≠ .full) ∧
  (∀ (cap : Nat) (s : State), s.rStatus = .ok → s.rKind ≠ .unknown →
    (s.table.get s.rAddr = none → s.table.length = cap →
      updateTable cap s = { s with rUpd := .full }) ∧
    (∀ e, s.table.get s.rAddr = some e →
      (updateTable cap s).rUpd = .done ∧
      (updateTable cap s).table.get s.rAddr = some (entryAfter s e)))

/-- R40, R42, R64: only UPDATE, PROCESS and RESET write the table, and no command but RESET removes
an entry. A step changes at most the entry of the address in `R_ADDR` after it, and of that entry
only the field the kind of the frame selects, from the old value or the default; the number of
entries grows by at most one. -/
def Obligations.TableOnlyGrowsOneFieldAtATime : Prop :=
  ∀ (s t : State) (c : Command) (rest : List Command), s.pending = c :: rest → c ≠ .reset →
    step s = .next t →
    s.table.length ≤ t.table.length ∧ t.table.length ≤ s.table.length + 1 ∧
    (c ≠ .update → (∀ bytes, c ≠ .process bytes) → t.table = s.table) ∧
    (∀ d, d ≠ t.rAddr → t.table.get d = s.table.get d) ∧
    ((s.table.get t.rAddr).isSome → (t.table.get t.rAddr).isSome) ∧
    ∀ f, t.table.get t.rAddr = some f →
      (t.rKind = .ident → f.altitude = ((s.table.get t.rAddr).getD ⟨[], 0⟩).altitude) ∧
      (t.rKind ≠ .ident → f.callsign = ((s.table.get t.rAddr).getD ⟨[], 0⟩).callsign)

/-- R195: LOOKUP returns a copy of the entry, or `absent`, in `reply` (log entry 4), and changes
nothing else. -/
def Obligations.LookupReturnsTheEntry : Prop :=
  ∀ (s : State) (a : BitVec 24) (rest : List Command), s.pending = .lookup a :: rest →
    s.halted = false →
    step s = .next { s with pending := rest, reply := .entry (s.table.get a) }

/-- R197, R198: whatever the free order of ties is (log entry 5), RENDER returns a correct list. -/
def Obligations.RenderedListIsCorrect : Prop :=
  ∀ (s : State) (rest : List Command), TableOk s.table → s.pending = .render :: rest →
    s.halted = false →
    ∃ t l, step s = .next t ∧ t.reply = .records l ∧ RenderCorrect s.table l

/-- Every correct list is the result of RENDER under some order of ties: the model's form (log entry
5) of R199. -/
def Obligations.EveryTieOrderIsPossible : Prop :=
  ∀ (tbl : Table) (l : List Record), tbl.wf = true → RenderCorrect tbl l →
    ∃ rank, renderTable rank tbl = l

/-- RENDER changes no state of the block and a second RENDER sees the same records (R201);
`pending`, `reply` and `renders` are the model's own (log entries 4, 5). -/
def Obligations.RenderIsReadOnly : Prop :=
  ∀ (s : State) (rest : List Command), s.pending = .render :: .render :: rest →
    s.halted = false →
    ∃ t v l m, step s = .next t ∧ step t = .next v ∧ t.reply = .records l ∧
      v.reply = .records m ∧ List.Perm l m ∧
      t = { s with pending := t.pending, reply := t.reply, renders := t.renders } ∧
      v = { s with pending := rest, reply := v.reply, renders := v.renders }

/-! ## Host commands -/

/-- R211: LOAD writes bytes 0 to n-1 and `R_LEN`, and leaves every other byte and all other state;
a halted block refuses it. `pending` and `reply` are the model's own (log entry 4). -/
def Obligations.LoadWritesItsBytesOnly : Prop :=
  ∀ (s : State) (bytes : List Byte) (rest : List Command), s.pending = .load bytes :: rest →
    bytes.length ≤ Config.bufCap →
    (s.halted = true → step s = .next { s with pending := rest, reply := .refused }) ∧
    (s.halted = false → ∃ t, step s = .next t ∧
      t = { s with pending := rest, reply := t.reply, fb := t.fb, rLen := bytes.length } ∧
      (∀ k (hk : k < bytes.length), t.fb.read k = some bytes[k]) ∧
      (∀ a, bytes.length ≤ a → t.fb.read a = s.fb.read a) ∧
      t.frameBytes = some bytes)

/-- R212: LOAD of more bytes than the buffer holds is refused: nothing changes but the command list
and the reply, which are the model's own (log entry 4). -/
def Obligations.OversizedLoadIsRefused : Prop :=
  ∀ (s : State) (bytes : List Byte) (rest : List Command), s.pending = .load bytes :: rest →
    Config.bufCap < bytes.length →
    step s = .next { s with pending := rest, reply := .refused }

/-- R214: PROCESS is LOAD, DECODE and, for a valid frame that is not `Unknown`, UPDATE; otherwise
`R_UPD` keeps its value. -/
def Obligations.ProcessIsTheThreeCommands : Prop :=
  ∀ (s : State) (bytes : List Byte) (rest : List Command), s.pending = .process bytes :: rest →
    s.halted = false → bytes.length ≤ Config.bufCap →
    ∃ a d t, step { s with pending := .load bytes :: .decode :: rest } = .next a ∧
      step a = .next d ∧ step s = .next t ∧
      (d.rStatus = .ok ∧ d.rKind ≠ .unknown →
        step { d with pending := .update :: rest } = .next t) ∧
      (¬ (d.rStatus = .ok ∧ d.rKind ≠ .unknown) → t = d ∧ t.rUpd = s.rUpd)

/-- After RESET, served also when halted, and at power-up, the table is empty and every register
holds the value reset gives it (R260, R47, R217). That the commands still to come stay in `pending`
is the model's choice (log entry 4). -/
def Obligations.ResetRestoresEveryRegister : Prop :=
  let asReset := fun t : State => t.table = [] ∧ t.rLen = 0 ∧ t.cur = ⟨0, 0⟩ ∧
    t.rStatus = .none ∧ t.rUpd = .none ∧ t.halted = false ∧ FrameRegsZero t
  asReset State.reset ∧
  ∀ (s : State) (rest : List Command), s.pending = .reset :: rest →
    ∃ t, step s = .next t ∧ asReset t ∧ t.pending = rest

/-- R219: a halted block refuses every command but RESET: nothing changes but the command list and
the reply, which are the model's own (log entry 4). -/
def Obligations.HaltedBlockServesOnlyReset : Prop :=
  ∀ (s : State) (c : Command) (rest : List Command), s.pending = c :: rest → s.halted = true →
    c ≠ .reset → step s = .next { s with pending := rest, reply := .refused }

/-- With no command waiting a step changes nothing: the model's form (log entry 4) of R251, which
the spec derives. -/
def Obligations.IdleBlockKeepsItsState : Prop :=
  ∀ s : State, s.pending = [] → step s = .next s

/-- R44: what each command leaves alone. -/
def Obligations.CommandsWriteOnlyTheirColumn : Prop :=
  ∀ (s t : State) (c : Command) (rest : List Command), s.pending = c :: rest →
    step s = .next t →
    (∀ bytes, c = .load bytes →
      t = { s with pending := rest, reply := t.reply, fb := t.fb, rLen := t.rLen }) ∧
    (c = .decode → (∀ a, t.fb.read a = s.fb.read a) ∧ t.fb = s.fb ∧ t.rLen = s.rLen ∧
      t.rUpd = s.rUpd ∧ t.table = s.table ∧ t.renders = s.renders) ∧
    (c = .update → t = { s with pending := rest, reply := t.reply, table := t.table
                                rUpd := t.rUpd }) ∧
    (∀ a, c = .lookup a → t = { s with pending := rest, reply := t.reply }) ∧
    (c = .render → t = { s with pending := rest, reply := t.reply, renders := t.renders }) ∧
    (∀ bytes, c = .process bytes → t.renders = s.renders ∧
      ∀ a, bytes.length ≤ a → t.fb.read a = s.fb.read a)

/-! ## The invariant -/

/-- The invariant holds after reset. -/
def Obligations.ResetStateIsSound : Prop := Inv State.reset

/-- Every step, of any command with any bytes, keeps the invariant. -/
def Obligations.EveryStepKeepsTheInvariant : Prop :=
  ∀ s t : State, Inv s → step s = .next t → Inv t

/-- No step from a state of the invariant ends in a fault or a refusal. -/
def Obligations.NoStepStops : Prop :=
  ∀ s : State, Inv s → ∃ t, step s = .next t
end

