-- ==== Sys2Proof/Laws/Cursor.lean ====
section
/-! SUPPORT. The bit cursor: positions, and the one lemma that says all a take or a skip does. -/

namespace Sys2Proof

@[simp] theorem Cursor.pos_ofPos (p : Nat) : (Cursor.ofPos p).pos = p := by
  simp only [Cursor.pos, Cursor.ofPos]; omega

@[simp] theorem Cursor.ofPos_pos (c : Cursor) : Cursor.ofPos c.pos = c := by
  obtain ⟨y, o, h⟩ := c
  simp only [Cursor.pos, Cursor.ofPos, Cursor.mk.injEq, Fin.mk.injEq]
  omega

@[simp] theorem Stage.andThen_ok {α β : Type} (a : α) (c : Cursor) (k : α → Cursor → Stage β) :
    (Stage.ok a c).andThen k = k a c := rfl

@[simp] theorem Stage.andThen_raise {α β : Type} (x : Failure) (c : Cursor)
    (k : α → Cursor → Stage β) : (Stage.raise x c).andThen k = .raise x c := rfl

/-- A stage sequence that succeeds is two stages that succeed. -/
theorem Stage.andThen_eq_ok {α β : Type} {r : Stage α} {k : α → Cursor → Stage β} {v : β}
    {d : Cursor} : r.andThen k = .ok v d ↔ ∃ a c, r = .ok a c ∧ k a c = .ok v d := by
  cases r <;> simp [Stage.andThen]

/-- A stage sequence raises where its first stage raises, or where the second does. -/
theorem Stage.andThen_eq_raise {α β : Type} {r : Stage α} {k : α → Cursor → Stage β}
    {x : Failure} {d : Cursor} : r.andThen k = .raise x d ↔
      r = .raise x d ∨ ∃ a c, r = .ok a c ∧ k a c = .raise x d := by
  cases r <;> simp [Stage.andThen]

/-- A take of `w` bits at position `p` that are all present. -/
theorem take_ofPos {b : List Byte} {w p : Nat} {hw : 0 < w ∧ w ≤ 32}
    (h : p + w ≤ 8 * b.length) : take b w (.ofPos p) hw = .ok (field b p w) (.ofPos (p + w)) := by
  simp only [take, Cursor.pos_ofPos]
  rw [if_neg (by omega)]

/-- A take of `w` bits at position `p` that are not all present. -/
theorem take_exhausted {b : List Byte} {w p : Nat} {hw : 0 < w ∧ w ≤ 32}
    (h : 8 * b.length < p + w) : take b w (.ofPos p) hw = .raise .exhausted (.ofPos p) := by
  simp only [take, Cursor.pos_ofPos]
  rw [if_pos (by omega)]

/-- A skip of `w` bits at position `p` that are all present. -/
theorem skip_ofPos {b : List Byte} {w p : Nat} {hw : 0 < w ∧ w ≤ 64}
    (h : p + w ≤ 8 * b.length) : skip b w (.ofPos p) hw = .ok () (.ofPos (p + w)) := by
  simp only [skip, Cursor.pos_ofPos]
  rw [if_neg (by omega)]

/-- A skip of `w` bits at position `p` that are not all present. -/
theorem skip_exhausted {b : List Byte} {w p : Nat} {hw : 0 < w ∧ w ≤ 64}
    (h : 8 * b.length < p + w) : skip b w (.ofPos p) hw = .raise .exhausted (.ofPos p) := by
  simp only [skip, Cursor.pos_ofPos]
  rw [if_pos (by omega)]

/-- The alignment check passes at a position that is a multiple of 8. -/
theorem alignCheck_ofPos {p : Nat} (h : p % 8 = 0) :
    alignCheck (.ofPos p) = .ok () (.ofPos p) := by
  simp [alignCheck, Cursor.ofPos, h]

theorem fbits_lt (b : List Byte) (n w : Nat) : fbits b n w < 2 ^ w := by
  induction w generalizing n with
  | zero => simp [fbits]
  | succ w ih =>
    have h1 := ih (n + 1)
    have h2 : (frameBit b n).toNat ≤ 1 := Bool.toNat_le _
    simp only [fbits, Nat.pow_succ]
    nlinarith

@[simp] theorem field_toNat (b : List Byte) (n w : Nat) : (field b n w).toNat = fbits b n w := by
  simp [field, Nat.mod_eq_of_lt (fbits_lt b n w)]

end Sys2Proof
end

