-- ==== Sys2Proof/Laws/Decode.lean ====
section
/-! SUPPORT. One spec lemma per stage of the decode: where it starts, what it gives, where the
cursor ends, and the whole decode of the common prefix as one case distinction on frame bits. -/

namespace Sys2Proof

/-- HDR from the start of the buffer (R124). -/
theorem hdr_eq (b : List Byte) : hdr b (.ofPos 0) =
    if b.length < 16 then .raise .exhausted (.ofPos 0)
    else if field b 0 8 ≠ 0x1A ∨ field b 8 8 ≠ 0x33 then .raise .notAFrame (.ofPos 16)
    else .ok () (.ofPos 72) := by
  unfold hdr
  by_cases h : b.length < 16
  · rw [if_pos h, if_pos (show b.length < Config.minLen from h)]
  · rw [if_neg h, if_neg (show ¬ b.length < Config.minLen from h)]
    have h : 16 ≤ b.length := Nat.le_of_not_lt h
    simp only [take_ofPos (b := b) (w := 8) (p := 0) (by omega),
      take_ofPos (b := b) (w := 8) (p := 0 + 8) (by omega), Stage.andThen_ok,
      skip_ofPos (b := b) (w := 48) (p := 0 + 8 + 8) (by omega),
      skip_ofPos (b := b) (w := 8) (p := 0 + 8 + 8 + 48) (by omega)]
    rfl

theorem dfca_eq {b : List Byte} (h : 16 ≤ b.length) :
    dfca b (.ofPos 72) = .ok (field b 72 5, field b 77 3) (.ofPos 80) := by
  simp only [dfca, take_ofPos (b := b) (w := 5) (p := 72) (by omega),
    take_ofPos (b := b) (w := 3) (p := 72 + 5) (by omega), Stage.andThen_ok,
    alignCheck_ofPos (p := 72 + 5 + 3) (by omega)]

theorem icao_eq {b : List Byte} (h : 16 ≤ b.length) :
    icao b (.ofPos 80) = .ok (field b 80 24) (.ofPos 104) :=
  take_ofPos (by omega)

theorem typecode_eq {b : List Byte} (h : 16 ≤ b.length) :
    typecode b (.ofPos 104) = .ok (field b 104 5) (.ofPos 109) :=
  take_ofPos (by omega)

/-- The instruction that the fields of a buffer name. -/
def rowOfFields (b : List Byte) : Instr :=
  selectRow (field b 72 5) (field b 104 5)
    ⟨field b 16 48, field b 64 8, field b 77 3, field b 80 24⟩ (field b 109 3)

/-- Everything the decode of the common prefix can answer. -/
theorem decode_eq (b : List Byte) : decode b =
    if b.length < 16 then .raise .exhausted (.ofPos 0)
    else if field b 0 8 ≠ 0x1A ∨ field b 8 8 ≠ 0x33 then .raise .notAFrame (.ofPos 16)
    else if field b 72 5 ≠ 17 ∧ field b 72 5 ≠ 18 then .raise .badDf (.ofPos 104)
    else .ok (rowOfFields b) (.ofPos 109) := by
  simp only [decode, hdr_eq]
  by_cases h : b.length < 16
  · simp only [if_pos h, Stage.andThen_raise]
  · have h' : 16 ≤ b.length := Nat.le_of_not_lt h
    by_cases hm : field b 0 8 ≠ 0x1A ∨ field b 8 8 ≠ 0x33
    · simp only [if_neg h, if_pos hm, Stage.andThen_raise]
    · simp only [if_neg h, if_neg hm, Stage.andThen_ok, dfca_eq h', icao_eq h', typecode_eq h',
        rowOfFields]

/-- The row selected for an accepted format and any type code has that format, that type code, the
class of the type code, and the operands given. -/
theorem selectRow_parts {df : BitVec 5} (tc : BitVec 5) (h : Head) (low3 : BitVec 3)
    (hdf : df = 17 ∨ df = 18) : (selectRow df tc h low3).parts = ⟨classOf tc, df, tc, h, low3⟩ := by
  have key : ∀ tc : BitVec 5, ∀ k, tc.toNat = k → tc = BitVec.ofNat 5 k := by
    intro tc k hk
    rw [← hk]; simp
  obtain ⟨k, hk⟩ : ∃ k : Fin 32, tc = BitVec.ofNat 5 k.val :=
    ⟨⟨tc.toNat, tc.isLt⟩, key tc _ rfl⟩
  subst hk
  rcases hdf with rfl | rfl <;> fin_cases k <;> rfl

end Sys2Proof
end

