-- ==== Sys2Proof/Laws/Memory.lean ====
section
/-! SUPPORT. The frame buffer's memory: what a read gives after a write, and that every operation
keeps the canonical form. -/

namespace Sys2Proof.Machine

theorem Memory.read_write (m : Memory) (a x : Nat) (v : Byte) :
    (m.write a v).read x = if x = a then some v else m.read x := by
  induction m with
  | nil => rfl
  | cons p m ih =>
    obtain ⟨k, w⟩ := p
    simp only [Memory.write]
    split
    · simp only [Memory.read]
    · split
      · next h => subst h; simp only [Memory.read]; split <;> rfl
      · next h => simp only [Memory.read, ih]; split <;> split <;> simp_all

theorem Memory.mem_write {m : Memory} {a : Nat} {v : Byte} {p : Host.Cell}
    (h : p ∈ m.write a v) : p = (a, v) ∨ p ∈ m := by
  induction m with
  | nil => simpa [Memory.write] using h
  | cons q m ih =>
    simp only [Memory.write] at h
    split at h
    · simpa using h
    · split at h <;> simp only [List.mem_cons] at h ⊢ <;> grind

theorem Memory.wf_cons (p : Host.Cell) (m : Memory) :
    Memory.wf (p :: m) = true ↔ (∀ q ∈ m, p.1 < q.1) ∧ m.wf = true := by
  simp [Memory.wf]

theorem Memory.write_wf {m : Memory} (a : Nat) (v : Byte) (h : m.wf = true) :
    (m.write a v).wf = true := by
  induction m with
  | nil => rfl
  | cons p m ih =>
    obtain ⟨k, w⟩ := p
    rw [Memory.wf_cons] at h
    simp only [Memory.write]
    split
    · next hk =>
      rw [Memory.wf_cons, Memory.wf_cons]
      refine ⟨?_, h⟩
      intro q hq
      rcases List.mem_cons.mp hq with rfl | hq
      · exact hk
      · exact Nat.lt_trans hk (h.1 q hq)
    · split
      · next hk => subst hk; exact (Memory.wf_cons _ _).mpr h
      · refine (Memory.wf_cons _ _).mpr ⟨?_, ih h.2⟩
        intro q hq
        rcases Memory.mem_write hq with rfl | hq
        · simp only; omega
        · exact h.1 q hq

theorem Memory.writeBytes_wf {m : Memory} (a : Nat) (bs : List Byte) (h : m.wf = true) :
    (m.writeBytes a bs).wf = true := by
  induction bs generalizing m a with
  | nil => exact h
  | cons b bs ih => exact ih (a + 1) (Memory.write_wf a b h)

theorem Memory.reset_wf : State.reset.fb.wf = true := rfl

theorem Memory.read_writeBytes (m : Memory) (a x : Nat) (bs : List Byte) :
    (m.writeBytes a bs).read x =
      if a ≤ x ∧ x < a + bs.length then bs[x - a]? else m.read x := by
  induction bs generalizing m a with
  | nil => simp only [Memory.writeBytes, List.length_nil]; split <;> [omega; rfl]
  | cons b bs ih =>
    simp only [Memory.writeBytes, ih, Memory.read_write, List.length_cons]
    by_cases h1 : a + 1 ≤ x ∧ x < a + 1 + bs.length
    · rw [if_pos h1, if_pos (by omega), show x - a = (x - (a + 1)) + 1 by omega]
      simp
    · rw [if_neg h1]
      by_cases h2 : x = a
      · subst h2; simp
      · rw [if_neg h2, if_neg (by omega)]

theorem Memory.mem_writeBytes {m : Memory} {a : Nat} {bs : List Byte} {p : Host.Cell}
    (h : p ∈ m.writeBytes a bs) : p ∈ m ∨ (a ≤ p.1 ∧ p.1 < a + bs.length) := by
  induction bs generalizing m a with
  | nil => exact .inl h
  | cons b bs ih =>
    rcases ih h with h | h
    · rcases Memory.mem_write h with rfl | h
      · exact .inr ⟨Nat.le_refl _, by simp⟩
      · exact .inl h
    · exact .inr (by simp only [List.length_cons]; omega)

/-- A range reads as `bs` exactly when every byte of it was written and is the one of `bs`. -/
theorem Memory.readBytes_eq_some (m : Memory) (a n : Nat) (bs : List Byte) :
    m.readBytes a n = some bs ↔ bs.length = n ∧ ∀ k < n, m.read (a + k) = bs[k]? := by
  induction n generalizing a bs with
  | zero => simp [Memory.readBytes, eq_comm (a := ([] : List Byte))]
  | succ n ih =>
    simp only [Memory.readBytes]
    cases bs with
    | nil =>
      cases m.read a <;> cases m.readBytes (a + 1) n <;> simp
    | cons b bs =>
      have key : (m.readBytes (a + 1) n = some bs ∧ m.read a = some b) ↔
          ((b :: bs).length = n + 1 ∧ ∀ k < n + 1, m.read (a + k) = (b :: bs)[k]?) := by
        rw [ih]
        constructor
        · rintro ⟨⟨hl, h⟩, h0⟩
          refine ⟨by simp [hl], ?_⟩
          intro k hk
          cases k with
          | zero => simpa using h0
          | succ k => have := h k (by omega); rw [show a + 1 + k = a + (k + 1) by omega] at this
                      simpa using this
        · rintro ⟨hl, h⟩
          refine ⟨⟨by simpa using hl, ?_⟩, by simpa using h 0 (by omega)⟩
          intro k hk
          have := h (k + 1) (by omega)
          rw [show a + 1 + k = a + (k + 1) by omega]
          simpa using this
      rw [← key]
      cases m.read a <;> cases m.readBytes (a + 1) n <;> simp [and_comm]

theorem State.frameBytes_length {s : State} {b : List Byte} (h : s.frameBytes = some b) :
    b.length = s.rLen := ((Memory.readBytes_eq_some _ _ _ _).mp h).1

/-- After the buffer is filled, the decoder sees exactly the bytes put there. -/
theorem State.frameBytes_withFrame (s : State) (bytes : List Byte) :
    (s.withFrame bytes).frameBytes = some bytes := by
  refine (Memory.readBytes_eq_some _ _ _ _).mpr ⟨rfl, ?_⟩
  intro k hk
  simp only [State.withFrame] at hk ⊢
  rw [Memory.read_writeBytes, if_pos (by omega)]
  simp

/-- Every byte below `R_LEN` being written is what makes the frame readable. -/
theorem State.frameBytes_isSome {s : State} (h : ∀ a < s.rLen, ∃ v, s.fb.read a = some v) :
    ∃ b, s.frameBytes = some b := by
  have aux : ∀ n a, (∀ k, a ≤ k → k < a + n → ∃ v, s.fb.read k = some v) →
      ∃ b, s.fb.readBytes a n = some b := by
    intro n
    induction n with
    | zero => exact fun _ _ => ⟨[], rfl⟩
    | succ n ih =>
      intro a h
      obtain ⟨v, hv⟩ := h a (Nat.le_refl _) (by omega)
      obtain ⟨vs, hvs⟩ := ih (a + 1) (fun k h1 h2 => h k (by omega) (by omega))
      exact ⟨v :: vs, by simp [Memory.readBytes, hv, hvs]⟩
  exact aux s.rLen 0 fun k _ hk => h k (by omega)

end Sys2Proof.Machine
end

