-- ==== Sys2Proof/Laws/State.lean ====
section
/-! SUPPORT. What each shared update of the state does to each field. -/

namespace Sys2Proof.Machine

section writeOk
variable (df tc : BitVec 5) (ca : BitVec 3) (addr : BitVec 24) (p : PayloadRegs) (s : State)

@[simp] theorem writeOk_fb : (writeOk df tc ca addr p s).fb = s.fb := rfl
@[simp] theorem writeOk_rLen : (writeOk df tc ca addr p s).rLen = s.rLen := rfl
@[simp] theorem writeOk_cur : (writeOk df tc ca addr p s).cur = s.cur := rfl
@[simp] theorem writeOk_rStatus : (writeOk df tc ca addr p s).rStatus = .ok := rfl
@[simp] theorem writeOk_rDf : (writeOk df tc ca addr p s).rDf = df := rfl
@[simp] theorem writeOk_rCa : (writeOk df tc ca addr p s).rCa = ca := rfl
@[simp] theorem writeOk_rAddr : (writeOk df tc ca addr p s).rAddr = addr := rfl
@[simp] theorem writeOk_rTc : (writeOk df tc ca addr p s).rTc = tc := rfl
@[simp] theorem writeOk_rKind : (writeOk df tc ca addr p s).rKind = p.kind := rfl
@[simp] theorem writeOk_rCs : (writeOk df tc ca addr p s).rCs = p.cs := rfl
@[simp] theorem writeOk_rCsLen : (writeOk df tc ca addr p s).rCsLen = p.csLen := rfl
@[simp] theorem writeOk_rAlt : (writeOk df tc ca addr p s).rAlt = p.alt := rfl
@[simp] theorem writeOk_rUpd : (writeOk df tc ca addr p s).rUpd = s.rUpd := rfl
@[simp] theorem writeOk_halted : (writeOk df tc ca addr p s).halted = s.halted := rfl
@[simp] theorem writeOk_table : (writeOk df tc ca addr p s).table = s.table := rfl
@[simp] theorem writeOk_pending : (writeOk df tc ca addr p s).pending = s.pending := rfl
@[simp] theorem writeOk_reply : (writeOk df tc ca addr p s).reply = s.reply := rfl
@[simp] theorem writeOk_renders : (writeOk df tc ca addr p s).renders = s.renders := rfl

end writeOk

section takeFailure
variable (x : Failure) (s : State)

@[simp] theorem takeFailure_fb : (takeFailure x s).fb = s.fb := rfl
@[simp] theorem takeFailure_rLen : (takeFailure x s).rLen = s.rLen := rfl
@[simp] theorem takeFailure_cur : (takeFailure x s).cur = s.cur := rfl
@[simp] theorem takeFailure_rStatus : (takeFailure x s).rStatus = failureStatus x := rfl
@[simp] theorem takeFailure_rDf : (takeFailure x s).rDf = 0 := rfl
@[simp] theorem takeFailure_rCa : (takeFailure x s).rCa = 0 := rfl
@[simp] theorem takeFailure_rAddr : (takeFailure x s).rAddr = 0 := rfl
@[simp] theorem takeFailure_rTc : (takeFailure x s).rTc = 0 := rfl
@[simp] theorem takeFailure_rKind : (takeFailure x s).rKind = .unknown := rfl
@[simp] theorem takeFailure_rCs : (takeFailure x s).rCs = .fill 0 := rfl
@[simp] theorem takeFailure_rCsLen : (takeFailure x s).rCsLen = 0 := rfl
@[simp] theorem takeFailure_rAlt : (takeFailure x s).rAlt = 0 := rfl
@[simp] theorem takeFailure_rUpd : (takeFailure x s).rUpd = s.rUpd := rfl
@[simp] theorem takeFailure_halted : (takeFailure x s).halted = (if x = .misalign then true else s.halted) := rfl
@[simp] theorem takeFailure_table : (takeFailure x s).table = s.table := rfl
@[simp] theorem takeFailure_pending : (takeFailure x s).pending = s.pending := rfl
@[simp] theorem takeFailure_reply : (takeFailure x s).reply = s.reply := rfl
@[simp] theorem takeFailure_renders : (takeFailure x s).renders = s.renders := rfl

end takeFailure

section withFrame
variable (bytes : List Byte) (s : State)

@[simp] theorem withFrame_fb : (s.withFrame bytes).fb = s.fb.writeBytes 0 bytes := rfl
@[simp] theorem withFrame_rLen : (s.withFrame bytes).rLen = bytes.length := rfl
@[simp] theorem withFrame_cur : (s.withFrame bytes).cur = s.cur := rfl
@[simp] theorem withFrame_rStatus : (s.withFrame bytes).rStatus = s.rStatus := rfl
@[simp] theorem withFrame_rDf : (s.withFrame bytes).rDf = s.rDf := rfl
@[simp] theorem withFrame_rCa : (s.withFrame bytes).rCa = s.rCa := rfl
@[simp] theorem withFrame_rAddr : (s.withFrame bytes).rAddr = s.rAddr := rfl
@[simp] theorem withFrame_rTc : (s.withFrame bytes).rTc = s.rTc := rfl
@[simp] theorem withFrame_rKind : (s.withFrame bytes).rKind = s.rKind := rfl
@[simp] theorem withFrame_rCs : (s.withFrame bytes).rCs = s.rCs := rfl
@[simp] theorem withFrame_rCsLen : (s.withFrame bytes).rCsLen = s.rCsLen := rfl
@[simp] theorem withFrame_rAlt : (s.withFrame bytes).rAlt = s.rAlt := rfl
@[simp] theorem withFrame_rUpd : (s.withFrame bytes).rUpd = s.rUpd := rfl
@[simp] theorem withFrame_halted : (s.withFrame bytes).halted = s.halted := rfl
@[simp] theorem withFrame_table : (s.withFrame bytes).table = s.table := rfl
@[simp] theorem withFrame_pending : (s.withFrame bytes).pending = s.pending := rfl
@[simp] theorem withFrame_reply : (s.withFrame bytes).reply = s.reply := rfl
@[simp] theorem withFrame_renders : (s.withFrame bytes).renders = s.renders := rfl

end withFrame

section refuse
variable (s : State)

@[simp] theorem refuse_fb : (refuse s).fb = s.fb := rfl
@[simp] theorem refuse_rLen : (refuse s).rLen = s.rLen := rfl
@[simp] theorem refuse_cur : (refuse s).cur = s.cur := rfl
@[simp] theorem refuse_rStatus : (refuse s).rStatus = s.rStatus := rfl
@[simp] theorem refuse_rDf : (refuse s).rDf = s.rDf := rfl
@[simp] theorem refuse_rCa : (refuse s).rCa = s.rCa := rfl
@[simp] theorem refuse_rAddr : (refuse s).rAddr = s.rAddr := rfl
@[simp] theorem refuse_rTc : (refuse s).rTc = s.rTc := rfl
@[simp] theorem refuse_rKind : (refuse s).rKind = s.rKind := rfl
@[simp] theorem refuse_rCs : (refuse s).rCs = s.rCs := rfl
@[simp] theorem refuse_rCsLen : (refuse s).rCsLen = s.rCsLen := rfl
@[simp] theorem refuse_rAlt : (refuse s).rAlt = s.rAlt := rfl
@[simp] theorem refuse_rUpd : (refuse s).rUpd = s.rUpd := rfl
@[simp] theorem refuse_halted : (refuse s).halted = s.halted := rfl
@[simp] theorem refuse_table : (refuse s).table = s.table := rfl
@[simp] theorem refuse_pending : (refuse s).pending = s.pending := rfl
@[simp] theorem refuse_reply : (refuse s).reply = .refused := rfl
@[simp] theorem refuse_renders : (refuse s).renders = s.renders := rfl

end refuse

section complete
variable (s : State)

@[simp] theorem complete_fb : (complete s).fb = s.fb := rfl
@[simp] theorem complete_rLen : (complete s).rLen = s.rLen := rfl
@[simp] theorem complete_cur : (complete s).cur = s.cur := rfl
@[simp] theorem complete_rStatus : (complete s).rStatus = s.rStatus := rfl
@[simp] theorem complete_rDf : (complete s).rDf = s.rDf := rfl
@[simp] theorem complete_rCa : (complete s).rCa = s.rCa := rfl
@[simp] theorem complete_rAddr : (complete s).rAddr = s.rAddr := rfl
@[simp] theorem complete_rTc : (complete s).rTc = s.rTc := rfl
@[simp] theorem complete_rKind : (complete s).rKind = s.rKind := rfl
@[simp] theorem complete_rCs : (complete s).rCs = s.rCs := rfl
@[simp] theorem complete_rCsLen : (complete s).rCsLen = s.rCsLen := rfl
@[simp] theorem complete_rAlt : (complete s).rAlt = s.rAlt := rfl
@[simp] theorem complete_rUpd : (complete s).rUpd = s.rUpd := rfl
@[simp] theorem complete_halted : (complete s).halted = s.halted := rfl
@[simp] theorem complete_table : (complete s).table = s.table := rfl
@[simp] theorem complete_pending : (complete s).pending = s.pending := rfl
@[simp] theorem complete_reply : (complete s).reply = .done := rfl
@[simp] theorem complete_renders : (complete s).renders = s.renders := rfl

end complete

end Sys2Proof.Machine
end

