-- ==== Sys2Proof/Laws/Table.lean ====
section
/-! SUPPORT. The aggregation table: what an address gives after an entry is set, how the number of
entries changes, and that setting an entry keeps the canonical form. -/

namespace Sys2Proof.Machine

theorem Table.get_set (t : Table) (a x : BitVec 24) (e : Entry) :
    (t.set a e).get x = if x = a then some e else t.get x := by
  induction t with
  | nil => rfl
  | cons p t ih =>
    obtain ⟨k, f⟩ := p
    simp only [Table.set]
    split
    · simp only [Table.get]
    · split
      · next h => subst h; simp only [Table.get]; split <;> rfl
      · next h => simp only [Table.get, ih]; split <;> split <;> simp_all

theorem Table.set_set (t : Table) (a : BitVec 24) (e f : Entry) :
    (t.set a e).set a f = t.set a f := by
  induction t with
  | nil => simp [Table.set]
  | cons p t ih =>
    obtain ⟨k, g⟩ := p
    simp only [Table.set]
    split
    · simp [Table.set]
    · split
      · simp [Table.set]
      · simp_all [Table.set]

theorem Table.mem_set {t : Table} {a : BitVec 24} {e : Entry} {p : BitVec 24 × Entry}
    (h : p ∈ t.set a e) : p = (a, e) ∨ p ∈ t := by
  induction t with
  | nil => simpa [Table.set] using h
  | cons q t ih =>
    simp only [Table.set] at h
    split at h
    · simpa using h
    · split at h <;> simp only [List.mem_cons] at h ⊢ <;> grind

theorem Table.wf_cons (p : BitVec 24 × Entry) (t : Table) :
    Table.wf (p :: t) = true ↔ (∀ q ∈ t, p.1.toNat < q.1.toNat) ∧ t.wf = true := by
  simp [Table.wf]

theorem Table.set_wf {t : Table} (a : BitVec 24) (e : Entry) (h : t.wf = true) :
    (t.set a e).wf = true := by
  induction t with
  | nil => rfl
  | cons p t ih =>
    obtain ⟨k, f⟩ := p
    rw [Table.wf_cons] at h
    simp only [Table.set]
    split
    · next hk =>
      rw [Table.wf_cons, Table.wf_cons]
      refine ⟨?_, h⟩
      intro q hq
      rcases List.mem_cons.mp hq with rfl | hq
      · exact hk
      · exact Nat.lt_trans hk (h.1 q hq)
    · split
      · next hk => subst hk; exact (Table.wf_cons _ _).mpr h
      · next h1 h2 =>
        refine (Table.wf_cons _ _).mpr ⟨?_, ih h.2⟩
        intro q hq
        rcases Table.mem_set hq with rfl | hq
        · have : a.toNat ≠ k.toNat := fun hc => h2 (BitVec.eq_of_toNat_eq hc)
          simp only; omega
        · exact h.1 q hq

theorem Table.reset_wf : State.reset.table.wf = true := rfl

theorem Table.get_eq_none_of_lt {t : Table} {a : BitVec 24}
    (h : ∀ q ∈ t, a.toNat < q.1.toNat) : t.get a = none := by
  induction t with
  | nil => rfl
  | cons p t ih =>
    obtain ⟨k, f⟩ := p
    have hk := h (k, f) (by simp)
    have hne : a ≠ k := fun hc => by subst hc; exact Nat.lt_irrefl _ hk
    simp only [Table.get, if_neg hne]
    exact ih fun q hq => h q (by simp [hq])

/-- In a canonical table the number of entries grows by one for a new address only. -/
theorem Table.length_set {t : Table} (a : BitVec 24) (e : Entry) (h : t.wf = true) :
    (t.set a e).length = if (t.get a).isSome then t.length else t.length + 1 := by
  induction t with
  | nil => rfl
  | cons p t ih =>
    obtain ⟨k, f⟩ := p
    rw [Table.wf_cons] at h
    simp only [Table.set, Table.get]
    split
    · next hk =>
      have hne : a ≠ k := fun hc => by subst hc; exact Nat.lt_irrefl _ hk
      have hn := Table.get_eq_none_of_lt (t := t) (a := a)
        fun q hq => Nat.lt_trans hk (h.1 q hq)
      simp [hne, hn]
    · split
      · next hk => simp
      · next h2 => simp only [List.length_cons, ih h.2]; split <;> rfl

theorem Table.length_set_bounds (t : Table) (a : BitVec 24) (e : Entry) :
    t.length ≤ (t.set a e).length ∧ (t.set a e).length ≤ t.length + 1 := by
  induction t with
  | nil => simp [Table.set]
  | cons p t ih =>
    simp only [Table.set]
    split
    · simp
    · split <;> simp only [List.length_cons] <;> omega

theorem Table.mem_of_get {t : Table} {a : BitVec 24} {e : Entry} (h : t.get a = some e) :
    (a, e) ∈ t := by
  induction t with
  | nil => simp [Table.get] at h
  | cons p t ih =>
    obtain ⟨k, f⟩ := p
    simp only [Table.get] at h
    split at h
    · next hk => subst hk; simp_all
    · exact List.mem_cons_of_mem _ (ih h)

/-- In a canonical table the entry listed for an address is the one the address gives. -/
theorem Table.get_of_mem {t : Table} {a : BitVec 24} {e : Entry} (hw : t.wf = true)
    (h : (a, e) ∈ t) : t.get a = some e := by
  induction t with
  | nil => simp at h
  | cons p t ih =>
    obtain ⟨k, f⟩ := p
    rw [Table.wf_cons] at hw
    rcases List.mem_cons.mp h with h | h
    · cases h; simp [Table.get]
    · have hlt := hw.1 _ h
      have hne : a ≠ k := fun hc => by subst hc; exact Nat.lt_irrefl _ hlt
      simp only [Table.get, if_neg hne, ih hw.2 h]

/-- A canonical table lists each address at most once. -/
theorem Table.addrs_nodup {t : Table} (h : t.wf = true) : (t.map Prod.fst).Nodup := by
  induction t with
  | nil => simp
  | cons p t ih =>
    rw [Table.wf_cons] at h
    simp only [List.map_cons, List.nodup_cons]
    refine ⟨?_, ih h.2⟩
    intro hc
    obtain ⟨q, hq, he⟩ := List.mem_map.mp hc
    have := h.1 q hq
    rw [he] at this
    exact Nat.lt_irrefl _ this

end Sys2Proof.Machine
end

