-- ==== Sys2Proof/Laws/Ops.lean ====
section
/-! SUPPORT. One lemma per shared operation, saying everything it can answer. -/

namespace Sys2Proof.Machine

/-! ## Payload decoders at their place, cursor (13, 5) -/

/-- The eight codes of a buffer, by frame bits (R86). -/
def codesOf (b : List Byte) : Eight (BitVec 6) :=
  ⟨field b 112 6, field b 118 6, field b 124 6, field b 130 6, field b 136 6, field b 142 6,
   field b 148 6, field b 154 6⟩

theorem category_ok {b : List Byte} (h : 14 ≤ b.length) :
    category b (.ofPos 109) = .ok (field b 109 3) (.ofPos 112) := by
  simp only [category, take_ofPos (b := b) (w := 3) (p := 109) (by omega), Stage.andThen_ok,
    alignCheck_ofPos (p := 109 + 3) (by omega)]

theorem takeCodes_ok {b : List Byte} (h : 20 ≤ b.length) :
    takeCodes b (.ofPos 112) = .ok (codesOf b) (.ofPos 160) := by
  simp only [takeCodes, Stage.andThen_ok, codesOf,
    take_ofPos (b := b) (w := 6) (p := 112) (by omega),
    take_ofPos (b := b) (w := 6) (p := 112 + 6) (by omega),
    take_ofPos (b := b) (w := 6) (p := 112 + 6 + 6) (by omega),
    take_ofPos (b := b) (w := 6) (p := 112 + 6 + 6 + 6) (by omega),
    take_ofPos (b := b) (w := 6) (p := 112 + 6 + 6 + 6 + 6) (by omega),
    take_ofPos (b := b) (w := 6) (p := 112 + 6 + 6 + 6 + 6 + 6) (by omega),
    take_ofPos (b := b) (w := 6) (p := 112 + 6 + 6 + 6 + 6 + 6 + 6) (by omega),
    take_ofPos (b := b) (w := 6) (p := 112 + 6 + 6 + 6 + 6 + 6 + 6 + 6) (by omega)]

theorem callsign_ok {b : List Byte} (h : 20 ≤ b.length) :
    callsign b (.ofPos 112) = .ok ((codesOf b).map ch) (.ofPos 160) := by
  simp only [callsign, alignCheck_ofPos (p := 112) (by omega), Stage.andThen_ok, takeCodes_ok h,
    alignCheck_ofPos (p := 160) (by omega)]

theorem payloadIdent_ok {b : List Byte} (h : 20 ≤ b.length) :
    payloadIdent b (.ofPos 109) = .ok (identRegs ((codesOf b).map ch)) (.ofPos 160) := by
  simp only [payloadIdent, category_ok (b := b) (by omega), Stage.andThen_ok, callsign_ok h]

theorem altField_ok {b : List Byte} (h : 16 ≤ b.length) :
    altField b (.ofPos 109) = .ok (field b 112 12) (.ofPos 124) := by
  simp only [altField, skip_ofPos (b := b) (w := 2) (p := 109) (by omega),
    skip_ofPos (b := b) (w := 1) (p := 109 + 2) (by omega), Stage.andThen_ok,
    take_ofPos (b := b) (w := 12) (p := 109 + 2 + 1) (by omega)]

theorem payloadBaro_ok {b : List Byte} (h : 16 ≤ b.length) :
    payloadBaro b (.ofPos 109) = .ok (baroRegs (field b 112 12)) (.ofPos 124) := by
  simp only [payloadBaro, altField_ok h, Stage.andThen_ok]

theorem payloadGnss_ok {b : List Byte} (h : 16 ≤ b.length) :
    payloadGnss b (.ofPos 109) = .ok (gnssRegs (field b 112 12)) (.ofPos 124) := by
  simp only [payloadGnss, altField_ok h, Stage.andThen_ok]

/-! ## Running an instruction -/

/-- Every meaning by its class: the payload decoder it runs, and its format and type code. -/
theorem exec_eq (i : Instr) (s : State) : exec i s =
    match i.cls with
    | .ident => runPayload payloadIdent i.df i.tc i.head s
    | .baro => runPayload payloadBaro i.df i.tc i.head s
    | .gnss => runPayload payloadGnss i.df i.tc i.head s
    | .unknown => .next (writeOk i.df i.tc i.head.ca i.head.addr unknownRegs s) := by
  cases i <;> rfl

/-- A payload decoder over a readable buffer writes its result or takes its failure. -/
theorem runPayload_next {p : List Byte → Cursor → Stage PayloadRegs} {df tc : BitVec 5} {h : Head}
    {s t : State} : runPayload p df tc h s = .next t ↔
      ∃ b, s.frameBytes = some b ∧
        ((∃ r c, p b s.cur = .ok r c ∧ t = writeOk df tc h.ca h.addr r { s with cur := c }) ∨
         (∃ x c, p b s.cur = .raise x c ∧ t = takeFailure x { s with cur := c })) := by
  simp only [runPayload]
  cases hb : s.frameBytes with
  | none => simp
  | some b =>
    cases hp : p b s.cur <;> simp [finishStage, hp, eq_comm]

/-! ## Commands -/

@[simp] theorem thenRun_next (s : State) (k : State → Result) : thenRun (.next s) k = k s := rfl

/-- A sequence that ends in a next state ran both parts to a next state. -/
theorem thenRun_eq_next {r : Result} {k : State → Result} {t : State} :
    thenRun r k = .next t ↔ ∃ m, r = .next m ∧ k m = .next t := by
  cases r <;> simp [thenRun]

/-- What `updateTable` does, in the four cases of R186. -/
theorem updateTable_cases (cap : Nat) (s : State) :
    ((s.rStatus ≠ .ok ∨ s.rKind = .unknown) ∧ updateTable cap s = { s with rUpd := .noop }) ∨
    (s.rStatus = .ok ∧ s.rKind ≠ .unknown ∧ s.table.get s.rAddr = none ∧
      s.table.length = cap ∧ updateTable cap s = { s with rUpd := .full }) ∨
    (s.rStatus = .ok ∧ s.rKind ≠ .unknown ∧
      ∃ e, (s.table.get s.rAddr = some e ∨
          (s.table.get s.rAddr = none ∧ s.table.length ≠ cap ∧ e = .default)) ∧
        updateTable cap s =
          { s with table := s.table.set s.rAddr (updatedEntry s e), rUpd := .done }) := by
  simp only [updateTable]
  split
  · exact .inl ⟨.inl ‹_›, rfl⟩
  · next h1 =>
    have h1 : s.rStatus = .ok := Classical.not_not.mp h1
    split
    · exact .inl ⟨.inr ‹_›, rfl⟩
    · next h2 =>
      split
      · next e he => exact .inr (.inr ⟨h1, h2, e, .inl he, rfl⟩)
      · next he =>
        split
        · exact .inr (.inl ⟨h1, h2, he, ‹_›, rfl⟩)
        · exact .inr (.inr ⟨h1, h2, .default, .inr ⟨he, ‹_›, rfl⟩, rfl⟩)

/-- Everything a DECODE can do to a block that is not halted: take a failure of the common prefix,
or run the decoded row. -/
theorem decodeFrame_eq {s : State} {b : List Byte} (hb : s.frameBytes = some b) :
    decodeFrame s =
      match Sys2Proof.decode b with
      | .raise x c => .next (takeFailure x { s with cur := c })
      | .ok i c => exec i { s with cur := c } := by
  cases hd : Sys2Proof.decode b <;> simp only [decodeFrame, hb, hd]

theorem decodeFrame_fault {s : State} (hb : s.frameBytes = none) :
    decodeFrame s = .fault .unwrittenFrameByte := by
  simp [decodeFrame, hb]

/-- One step runs the next command on the state without it. -/
theorem step_cons {s : State} {c : Command} {rest : List Command} (h : s.pending = c :: rest) :
    step s = runCommand c { s with pending := rest } := by
  simp [step, h]

theorem step_nil {s : State} (h : s.pending = []) : step s = .next s := by
  simp [step, h]

/-! ## Rendered lists -/

/-- Placing a record keeps the records. -/
theorem insertRecord_perm (rank : BitVec 24 → Nat) (r : Record) (l : List Record) :
    (insertRecord rank r l).Perm (r :: l) := by
  induction l with
  | nil => exact .refl _
  | cons q l ih =>
    simp only [insertRecord]
    split
    · exact .refl _
    · exact (ih.cons q).trans (.swap r q l)

/-- Sorting keeps the records, whatever the order of ties. -/
theorem sortRecords_perm (rank : BitVec 24 → Nat) (l : List Record) :
    (sortRecords rank l).Perm l := by
  induction l with
  | nil => exact .refl _
  | cons r l ih => exact (insertRecord_perm rank r _).trans (ih.cons r)

end Sys2Proof.Machine
end

