-- ==== Sys2Proof/Laws/Commands.lean ====
section
/-! SUPPORT. One lemma per host command: everything it did when it answered a next state. -/

namespace Sys2Proof.Machine

theorem execLoad_next {bytes : List Byte} {s t : State} (h : execLoad bytes s = .next t) :
    (t = refuse s ∧ (s.halted = true ∨ Config.bufCap < bytes.length)) ∨
    (s.halted = false ∧ bytes.length ≤ Config.bufCap ∧ t = complete (s.withFrame bytes)) := by
  unfold execLoad at h
  split at h
  · next hh => cases h; exact .inl ⟨rfl, .inl hh⟩
  · next hh =>
    split at h
    · next hl => cases h; exact .inl ⟨rfl, .inr hl⟩
    · next hl => cases h; exact .inr ⟨by simpa using hh, by omega, rfl⟩

/-- A DECODE that ran took a failure of the common prefix or ran the decoded row. -/
theorem execDecode_next {s t : State} (h : execDecode s = .next t) :
    (s.halted = true ∧ t = refuse s) ∨
    (s.halted = false ∧ ∃ b, s.frameBytes = some b ∧
      ((∃ x c, Sys2Proof.decode b = .raise x c ∧ t = complete (takeFailure x { s with cur := c })) ∨
       (∃ i c m, Sys2Proof.decode b = .ok i c ∧ exec i { s with cur := c } = .next m ∧
         t = complete m))) := by
  unfold execDecode at h
  split at h
  · next hh => cases h; exact .inl ⟨hh, rfl⟩
  · next hh =>
    refine .inr ⟨by simpa using hh, ?_⟩
    obtain ⟨m, h1, h2⟩ := thenRun_eq_next.mp h
    cases h2
    cases hb : s.frameBytes with
    | none => rw [decodeFrame_fault hb] at h1; cases h1
    | some b =>
      rw [decodeFrame_eq hb] at h1
      refine ⟨b, rfl, ?_⟩
      cases hd : Sys2Proof.decode b with
      | raise x c => rw [hd] at h1; cases h1; exact .inl ⟨x, c, rfl, rfl⟩
      | ok i c => rw [hd] at h1; exact .inr ⟨i, c, m, rfl, h1, rfl⟩

theorem execUpdate_next {s t : State} (h : execUpdate s = .next t) :
    (s.halted = true ∧ t = refuse s) ∨
    (s.halted = false ∧ t = complete (updateTable Config.tableCap s)) := by
  unfold execUpdate at h
  split at h
  · next hh => cases h; exact .inl ⟨hh, rfl⟩
  · next hh => cases h; exact .inr ⟨by simpa using hh, rfl⟩

/-- UPDATE writes the table and `R_UPD` only. -/
theorem updateTable_frame (cap : Nat) (s : State) :
    ∃ tbl u, updateTable cap s = { s with table := tbl, rUpd := u } := by
  rcases updateTable_cases cap s with ⟨_, e⟩ | ⟨_, _, _, _, e⟩ | ⟨_, _, f, _, e⟩ <;> rw [e] <;>
    exact ⟨_, _, rfl⟩

theorem execLookup_next {a : BitVec 24} {s t : State} (h : execLookup a s = .next t) :
    (s.halted = true ∧ t = refuse s) ∨
    (s.halted = false ∧ t = { s with reply := .entry (s.table.get a) }) := by
  unfold execLookup at h
  split at h
  · next hh => cases h; exact .inl ⟨hh, rfl⟩
  · next hh => cases h; exact .inr ⟨by simpa using hh, rfl⟩

theorem execRender_next {s t : State} (h : execRender s = .next t) :
    (s.halted = true ∧ t = refuse s) ∨
    (s.halted = false ∧ t = { s with
      reply := .records (renderTable (Config.tieRank s.renders) s.table)
      renders := s.renders + 1 }) := by
  unfold execRender at h
  split at h
  · next hh => cases h; exact .inl ⟨hh, rfl⟩
  · next hh => cases h; exact .inr ⟨by simpa using hh, rfl⟩

/-- A PROCESS that was not refused ran DECODE over its bytes and UPDATE when it was wanted. -/
theorem execProcess_next {bytes : List Byte} {s t : State} (h : execProcess bytes s = .next t) :
    (t = refuse s ∧ (s.halted = true ∨ Config.bufCap < bytes.length)) ∨
    (s.halted = false ∧ bytes.length ≤ Config.bufCap ∧
      ∃ d, execDecode (complete (s.withFrame bytes)) = .next d ∧
        ((updateWanted d = true ∧ execUpdate d = .next t) ∨
         (updateWanted d = false ∧ t = d))) := by
  unfold execProcess at h
  split at h
  · next hh => cases h; exact .inl ⟨rfl, .inl hh⟩
  · next hh =>
    split at h
    · next hl => cases h; exact .inl ⟨rfl, .inr hl⟩
    · next hl =>
      have hh : s.halted = false := by simpa using hh
      obtain ⟨m, h1, h2⟩ := thenRun_eq_next.mp h
      rcases execLoad_next h1 with ⟨_, h | h⟩ | ⟨_, _, rfl⟩
      · rw [hh] at h; cases h
      · exact absurd h hl
      · obtain ⟨d, h3, h4⟩ := thenRun_eq_next.mp h2
        refine .inr ⟨hh, by omega, d, h3, ?_⟩
        split at h4
        · next hw => exact .inl ⟨hw, h4⟩
        · next hw => cases h4; exact .inr ⟨by simpa using hw, rfl⟩

end Sys2Proof.Machine
end

