-- ==== Sys2Proof/Laws/PerInstr.lean ====
section
/-! SUPPORT. One lemma per instruction: its row is well formed, selecting the row of its downlink
format and type code gives the instruction back, and its opcode word has 14 bytes. -/

namespace Sys2Proof.Laws.RowShape

/-- The shape of one row of the opcode table (R96, R97). -/
def Statement (i : Instr) : Prop :=
  i.wf = true ∧ selectRow i.df i.tc i.head i.low3 = i ∧ (encode i).length = 14

theorem unknownDf17Tc0 (h : Head) (low3 : BitVec 3) : Statement (.unknownDf17Tc0 h low3) := ⟨rfl, rfl, rfl⟩
theorem identDf17Tc1 (h : Head) (low3 : BitVec 3) : Statement (.identDf17Tc1 h low3) := ⟨rfl, rfl, rfl⟩
theorem identDf17Tc2 (h : Head) (low3 : BitVec 3) : Statement (.identDf17Tc2 h low3) := ⟨rfl, rfl, rfl⟩
theorem identDf17Tc3 (h : Head) (low3 : BitVec 3) : Statement (.identDf17Tc3 h low3) := ⟨rfl, rfl, rfl⟩
theorem identDf17Tc4 (h : Head) (low3 : BitVec 3) : Statement (.identDf17Tc4 h low3) := ⟨rfl, rfl, rfl⟩
theorem unknownDf17Tc5 (h : Head) (low3 : BitVec 3) : Statement (.unknownDf17Tc5 h low3) := ⟨rfl, rfl, rfl⟩
theorem unknownDf17Tc6 (h : Head) (low3 : BitVec 3) : Statement (.unknownDf17Tc6 h low3) := ⟨rfl, rfl, rfl⟩
theorem unknownDf17Tc7 (h : Head) (low3 : BitVec 3) : Statement (.unknownDf17Tc7 h low3) := ⟨rfl, rfl, rfl⟩
theorem unknownDf17Tc8 (h : Head) (low3 : BitVec 3) : Statement (.unknownDf17Tc8 h low3) := ⟨rfl, rfl, rfl⟩
theorem baroDf17Tc9 (h : Head) (low3 : BitVec 3) : Statement (.baroDf17Tc9 h low3) := ⟨rfl, rfl, rfl⟩
theorem baroDf17Tc10 (h : Head) (low3 : BitVec 3) : Statement (.baroDf17Tc10 h low3) := ⟨rfl, rfl, rfl⟩
theorem baroDf17Tc11 (h : Head) (low3 : BitVec 3) : Statement (.baroDf17Tc11 h low3) := ⟨rfl, rfl, rfl⟩
theorem baroDf17Tc12 (h : Head) (low3 : BitVec 3) : Statement (.baroDf17Tc12 h low3) := ⟨rfl, rfl, rfl⟩
theorem baroDf17Tc13 (h : Head) (low3 : BitVec 3) : Statement (.baroDf17Tc13 h low3) := ⟨rfl, rfl, rfl⟩
theorem baroDf17Tc14 (h : Head) (low3 : BitVec 3) : Statement (.baroDf17Tc14 h low3) := ⟨rfl, rfl, rfl⟩
theorem baroDf17Tc15 (h : Head) (low3 : BitVec 3) : Statement (.baroDf17Tc15 h low3) := ⟨rfl, rfl, rfl⟩
theorem baroDf17Tc16 (h : Head) (low3 : BitVec 3) : Statement (.baroDf17Tc16 h low3) := ⟨rfl, rfl, rfl⟩
theorem baroDf17Tc17 (h : Head) (low3 : BitVec 3) : Statement (.baroDf17Tc17 h low3) := ⟨rfl, rfl, rfl⟩
theorem baroDf17Tc18 (h : Head) (low3 : BitVec 3) : Statement (.baroDf17Tc18 h low3) := ⟨rfl, rfl, rfl⟩
theorem unknownDf17Tc19 (h : Head) (low3 : BitVec 3) : Statement (.unknownDf17Tc19 h low3) := ⟨rfl, rfl, rfl⟩
theorem gnssDf17Tc20 (h : Head) (low3 : BitVec 3) : Statement (.gnssDf17Tc20 h low3) := ⟨rfl, rfl, rfl⟩
theorem gnssDf17Tc21 (h : Head) (low3 : BitVec 3) : Statement (.gnssDf17Tc21 h low3) := ⟨rfl, rfl, rfl⟩
theorem gnssDf17Tc22 (h : Head) (low3 : BitVec 3) : Statement (.gnssDf17Tc22 h low3) := ⟨rfl, rfl, rfl⟩
theorem unknownDf17Tc23 (h : Head) (low3 : BitVec 3) : Statement (.unknownDf17Tc23 h low3) := ⟨rfl, rfl, rfl⟩
theorem unknownDf17Tc24 (h : Head) (low3 : BitVec 3) : Statement (.unknownDf17Tc24 h low3) := ⟨rfl, rfl, rfl⟩
theorem unknownDf17Tc25 (h : Head) (low3 : BitVec 3) : Statement (.unknownDf17Tc25 h low3) := ⟨rfl, rfl, rfl⟩
theorem unknownDf17Tc26 (h : Head) (low3 : BitVec 3) : Statement (.unknownDf17Tc26 h low3) := ⟨rfl, rfl, rfl⟩
theorem unknownDf17Tc27 (h : Head) (low3 : BitVec 3) : Statement (.unknownDf17Tc27 h low3) := ⟨rfl, rfl, rfl⟩
theorem unknownDf17Tc28 (h : Head) (low3 : BitVec 3) : Statement (.unknownDf17Tc28 h low3) := ⟨rfl, rfl, rfl⟩
theorem unknownDf17Tc29 (h : Head) (low3 : BitVec 3) : Statement (.unknownDf17Tc29 h low3) := ⟨rfl, rfl, rfl⟩
theorem unknownDf17Tc30 (h : Head) (low3 : BitVec 3) : Statement (.unknownDf17Tc30 h low3) := ⟨rfl, rfl, rfl⟩
theorem unknownDf17Tc31 (h : Head) (low3 : BitVec 3) : Statement (.unknownDf17Tc31 h low3) := ⟨rfl, rfl, rfl⟩
theorem unknownDf18Tc0 (h : Head) (low3 : BitVec 3) : Statement (.unknownDf18Tc0 h low3) := ⟨rfl, rfl, rfl⟩
theorem identDf18Tc1 (h : Head) (low3 : BitVec 3) : Statement (.identDf18Tc1 h low3) := ⟨rfl, rfl, rfl⟩
theorem identDf18Tc2 (h : Head) (low3 : BitVec 3) : Statement (.identDf18Tc2 h low3) := ⟨rfl, rfl, rfl⟩
theorem identDf18Tc3 (h : Head) (low3 : BitVec 3) : Statement (.identDf18Tc3 h low3) := ⟨rfl, rfl, rfl⟩
theorem identDf18Tc4 (h : Head) (low3 : BitVec 3) : Statement (.identDf18Tc4 h low3) := ⟨rfl, rfl, rfl⟩
theorem unknownDf18Tc5 (h : Head) (low3 : BitVec 3) : Statement (.unknownDf18Tc5 h low3) := ⟨rfl, rfl, rfl⟩
theorem unknownDf18Tc6 (h : Head) (low3 : BitVec 3) : Statement (.unknownDf18Tc6 h low3) := ⟨rfl, rfl, rfl⟩
theorem unknownDf18Tc7 (h : Head) (low3 : BitVec 3) : Statement (.unknownDf18Tc7 h low3) := ⟨rfl, rfl, rfl⟩
theorem unknownDf18Tc8 (h : Head) (low3 : BitVec 3) : Statement (.unknownDf18Tc8 h low3) := ⟨rfl, rfl, rfl⟩
theorem baroDf18Tc9 (h : Head) (low3 : BitVec 3) : Statement (.baroDf18Tc9 h low3) := ⟨rfl, rfl, rfl⟩
theorem baroDf18Tc10 (h : Head) (low3 : BitVec 3) : Statement (.baroDf18Tc10 h low3) := ⟨rfl, rfl, rfl⟩
theorem baroDf18Tc11 (h : Head) (low3 : BitVec 3) : Statement (.baroDf18Tc11 h low3) := ⟨rfl, rfl, rfl⟩
theorem baroDf18Tc12 (h : Head) (low3 : BitVec 3) : Statement (.baroDf18Tc12 h low3) := ⟨rfl, rfl, rfl⟩
theorem baroDf18Tc13 (h : Head) (low3 : BitVec 3) : Statement (.baroDf18Tc13 h low3) := ⟨rfl, rfl, rfl⟩
theorem baroDf18Tc14 (h : Head) (low3 : BitVec 3) : Statement (.baroDf18Tc14 h low3) := ⟨rfl, rfl, rfl⟩
theorem baroDf18Tc15 (h : Head) (low3 : BitVec 3) : Statement (.baroDf18Tc15 h low3) := ⟨rfl, rfl, rfl⟩
theorem baroDf18Tc16 (h : Head) (low3 : BitVec 3) : Statement (.baroDf18Tc16 h low3) := ⟨rfl, rfl, rfl⟩
theorem baroDf18Tc17 (h : Head) (low3 : BitVec 3) : Statement (.baroDf18Tc17 h low3) := ⟨rfl, rfl, rfl⟩
theorem baroDf18Tc18 (h : Head) (low3 : BitVec 3) : Statement (.baroDf18Tc18 h low3) := ⟨rfl, rfl, rfl⟩
theorem unknownDf18Tc19 (h : Head) (low3 : BitVec 3) : Statement (.unknownDf18Tc19 h low3) := ⟨rfl, rfl, rfl⟩
theorem gnssDf18Tc20 (h : Head) (low3 : BitVec 3) : Statement (.gnssDf18Tc20 h low3) := ⟨rfl, rfl, rfl⟩
theorem gnssDf18Tc21 (h : Head) (low3 : BitVec 3) : Statement (.gnssDf18Tc21 h low3) := ⟨rfl, rfl, rfl⟩
theorem gnssDf18Tc22 (h : Head) (low3 : BitVec 3) : Statement (.gnssDf18Tc22 h low3) := ⟨rfl, rfl, rfl⟩
theorem unknownDf18Tc23 (h : Head) (low3 : BitVec 3) : Statement (.unknownDf18Tc23 h low3) := ⟨rfl, rfl, rfl⟩
theorem unknownDf18Tc24 (h : Head) (low3 : BitVec 3) : Statement (.unknownDf18Tc24 h low3) := ⟨rfl, rfl, rfl⟩
theorem unknownDf18Tc25 (h : Head) (low3 : BitVec 3) : Statement (.unknownDf18Tc25 h low3) := ⟨rfl, rfl, rfl⟩
theorem unknownDf18Tc26 (h : Head) (low3 : BitVec 3) : Statement (.unknownDf18Tc26 h low3) := ⟨rfl, rfl, rfl⟩
theorem unknownDf18Tc27 (h : Head) (low3 : BitVec 3) : Statement (.unknownDf18Tc27 h low3) := ⟨rfl, rfl, rfl⟩
theorem unknownDf18Tc28 (h : Head) (low3 : BitVec 3) : Statement (.unknownDf18Tc28 h low3) := ⟨rfl, rfl, rfl⟩
theorem unknownDf18Tc29 (h : Head) (low3 : BitVec 3) : Statement (.unknownDf18Tc29 h low3) := ⟨rfl, rfl, rfl⟩
theorem unknownDf18Tc30 (h : Head) (low3 : BitVec 3) : Statement (.unknownDf18Tc30 h low3) := ⟨rfl, rfl, rfl⟩
theorem unknownDf18Tc31 (h : Head) (low3 : BitVec 3) : Statement (.unknownDf18Tc31 h low3) := ⟨rfl, rfl, rfl⟩

end Sys2Proof.Laws.RowShape
end

