-- ==== Sys2Proof/Tests/Slice0.lean ====
section
/-! SUPPORT. Small tests whose expected values stand in spec/95_test_vectors.md (each names its
vector), the smoke tests of `FrameText.wf`, and for every statement with hypotheses a witness that
meets them. -/

namespace Sys2Proof.Tests

open Sys2Proof Sys2Proof.Machine

/-- The nine header bytes `H9` of the vectors. -/
def h9 : List Byte := [0x1A, 0x33, 0, 0, 0, 0, 0, 0, 0]

/-- The worked example S5. -/
def s5 : List Byte :=
  h9 ++ [0x8D, 0x84, 0x1B, 0xD1, 0x20, 0x2C, 0xC3, 0x71, 0xC3, 0x2C, 0xE0]

/-- A block right after reset that holds these bytes and has DECODE next, then `rest`. -/
def holding (bytes : List Byte) (rest : List Command) : State :=
  { State.reset.withFrame bytes with pending := .decode :: rest }

/-- The state of a next state. -/
def nextOf : Result → Option State
  | .next s => some s
  | .fault _ => none
  | .refused _ => none

/-- The register image after DECODE of these bytes. -/
def image (bytes : List Byte) : Option RegImage :=
  (nextOf (step (holding bytes []))).map State.regImage

/-- The frame DECODE gives for these bytes. -/
def frameOf (bytes : List Byte) : Option Frame :=
  (nextOf (step (holding bytes []))).bind State.frame

/-- The status code after DECODE of these bytes. -/
def statusOf (bytes : List Byte) : Option (BitVec 3) := (image bytes).map RegImage.status

/-- The image of a failed DECODE (R33). -/
def failed (len : Nat) (status : BitVec 3) : RegImage :=
  ⟨len, status, 0, 0, 0, 0, 0, ⟨0, 0, 0, 0, 0, 0, 0, 0⟩, 0, 0, 0, false⟩

theorem ready_holding (bytes : List Byte) (rest : List Command) :
    Ready (holding bytes rest) .decode rest bytes :=
  ⟨rfl, rfl, State.frameBytes_withFrame State.reset bytes⟩

/-! ## Ill-formed terms are refused (R103) -/

theorem test_wf_refuses_ident_df16 :
    (FrameText.ident 16 4 ⟨0, 0, 5, 0x841BD1⟩ 0 (.fill 32)).wf = false := by decide
theorem test_wf_refuses_unknown_df19 :
    (FrameText.unknown 19 0 ⟨0, 0, 5, 0x841BD1⟩ 0).wf = false := by decide
theorem test_wf_refuses_ident_tc5 :
    (FrameText.ident 17 5 ⟨0, 0, 5, 0x841BD1⟩ 0 (.fill 32)).wf = false := by decide
theorem test_wf_refuses_baro_tc19 :
    (FrameText.baro 17 19 ⟨0, 0, 5, 0x841BD1⟩ 0 0 0).wf = false := by decide
theorem test_wf_refuses_gnss_tc23 :
    (FrameText.gnss 18 23 ⟨0, 0, 5, 0x841BD1⟩ 0 0 0).wf = false := by decide
theorem test_wf_refuses_unknown_tc4 :
    (FrameText.unknown 17 4 ⟨0, 0, 5, 0x841BD1⟩ 0).wf = false := by decide
theorem test_wf_accepts_each_class :
    (FrameText.ident 17 4 ⟨0, 0, 5, 0x841BD1⟩ 0 (.fill 32)).wf = true ∧
    (FrameText.baro 17 18 ⟨0, 0, 5, 0x4840D6⟩ 3 1 4095).wf = true ∧
    (FrameText.gnss 18 20 ⟨0, 0, 0, 0xA00004⟩ 3 1 0).wf = true ∧
    (FrameText.unknown 17 19 ⟨0, 0, 5, 0x841BD1⟩ 5).wf = true := by decide

/-! ## Bit cursor (V4, V6, V7, V9, V10) -/

theorem test_take_crosses_a_byte :
    take [0xA5, 0xC3] 7 ⟨0, 0⟩ = .ok 82 ⟨0, 7⟩ ∧ take [0xA5, 0xC3] 2 ⟨0, 7⟩ = .ok 3 ⟨1, 1⟩ ∧
    take [0xA5, 0xC3] 7 ⟨1, 1⟩ = .ok 67 ⟨2, 0⟩ := by decide
theorem test_take_exhausted :
    take [0xA5, 0xC3] 12 ⟨0, 0⟩ = .ok 2652 ⟨1, 4⟩ ∧
    take [0xA5, 0xC3] 5 ⟨1, 4⟩ = .raise .exhausted ⟨1, 4⟩ ∧
    take [0xA5, 0xC3] 17 ⟨0, 0⟩ = .raise .exhausted ⟨0, 0⟩ := by decide
theorem test_take_32 : take [0xDE, 0xAD, 0xBE, 0xEF] 32 ⟨0, 0⟩ = .ok 0xDEADBEEF ⟨4, 0⟩ := by
  decide

/-! ## Every row, from the word of table 2.5 -/

theorem test_decode_df17_tc_zero_to_seven : ∀ p ∈ ([
    (0x00, .unknownDf17Tc0), (0x08, .identDf17Tc1), (0x10, .identDf17Tc2), (0x18, .identDf17Tc3),
    (0x20, .identDf17Tc4), (0x28, .unknownDf17Tc5), (0x30, .unknownDf17Tc6),
    (0x38, .unknownDf17Tc7)
    ] : List (Byte × (Head → BitVec 3 → Instr))),
    decode (h9 ++ [0x88, 0, 0, 1, p.1, 0, 0, 0, 0, 0, 0]) = .ok (p.2 ⟨0, 0, 0, 1⟩ 0) ⟨13, 5⟩ := by
  decide

theorem test_decode_df17_tc_eight_to_fifteen : ∀ p ∈ ([
    (0x40, .unknownDf17Tc8), (0x48, .baroDf17Tc9), (0x50, .baroDf17Tc10), (0x58, .baroDf17Tc11),
    (0x60, .baroDf17Tc12), (0x68, .baroDf17Tc13), (0x70, .baroDf17Tc14), (0x78, .baroDf17Tc15)
    ] : List (Byte × (Head → BitVec 3 → Instr))),
    decode (h9 ++ [0x88, 0, 0, 1, p.1, 0, 0, 0, 0, 0, 0]) = .ok (p.2 ⟨0, 0, 0, 1⟩ 0) ⟨13, 5⟩ := by
  decide

theorem test_decode_df17_tc_sixteen_to_twenty_three : ∀ p ∈ ([
    (0x80, .baroDf17Tc16), (0x88, .baroDf17Tc17), (0x90, .baroDf17Tc18),
    (0x98, .unknownDf17Tc19), (0xA0, .gnssDf17Tc20), (0xA8, .gnssDf17Tc21),
    (0xB0, .gnssDf17Tc22), (0xB8, .unknownDf17Tc23)
    ] : List (Byte × (Head → BitVec 3 → Instr))),
    decode (h9 ++ [0x88, 0, 0, 1, p.1, 0, 0, 0, 0, 0, 0]) = .ok (p.2 ⟨0, 0, 0, 1⟩ 0) ⟨13, 5⟩ := by
  decide

theorem test_decode_df17_tc_twenty_four_to_thirty_one : ∀ p ∈ ([
    (0xC0, .unknownDf17Tc24), (0xC8, .unknownDf17Tc25), (0xD0, .unknownDf17Tc26),
    (0xD8, .unknownDf17Tc27), (0xE0, .unknownDf17Tc28), (0xE8, .unknownDf17Tc29),
    (0xF0, .unknownDf17Tc30), (0xF8, .unknownDf17Tc31)
    ] : List (Byte × (Head → BitVec 3 → Instr))),
    decode (h9 ++ [0x88, 0, 0, 1, p.1, 0, 0, 0, 0, 0, 0]) = .ok (p.2 ⟨0, 0, 0, 1⟩ 0) ⟨13, 5⟩ := by
  decide

theorem test_decode_df18_tc_zero_to_seven : ∀ p ∈ ([
    (0x00, .unknownDf18Tc0), (0x08, .identDf18Tc1), (0x10, .identDf18Tc2), (0x18, .identDf18Tc3),
    (0x20, .identDf18Tc4), (0x28, .unknownDf18Tc5), (0x30, .unknownDf18Tc6),
    (0x38, .unknownDf18Tc7)
    ] : List (Byte × (Head → BitVec 3 → Instr))),
    decode (h9 ++ [0x90, 0, 0, 1, p.1, 0, 0, 0, 0, 0, 0]) = .ok (p.2 ⟨0, 0, 0, 1⟩ 0) ⟨13, 5⟩ := by
  decide

theorem test_decode_df18_tc_eight_to_fifteen : ∀ p ∈ ([
    (0x40, .unknownDf18Tc8), (0x48, .baroDf18Tc9), (0x50, .baroDf18Tc10), (0x58, .baroDf18Tc11),
    (0x60, .baroDf18Tc12), (0x68, .baroDf18Tc13), (0x70, .baroDf18Tc14), (0x78, .baroDf18Tc15)
    ] : List (Byte × (Head → BitVec 3 → Instr))),
    decode (h9 ++ [0x90, 0, 0, 1, p.1, 0, 0, 0, 0, 0, 0]) = .ok (p.2 ⟨0, 0, 0, 1⟩ 0) ⟨13, 5⟩ := by
  decide

theorem test_decode_df18_tc_sixteen_to_twenty_three : ∀ p ∈ ([
    (0x80, .baroDf18Tc16), (0x88, .baroDf18Tc17), (0x90, .baroDf18Tc18),
    (0x98, .unknownDf18Tc19), (0xA0, .gnssDf18Tc20), (0xA8, .gnssDf18Tc21),
    (0xB0, .gnssDf18Tc22), (0xB8, .unknownDf18Tc23)
    ] : List (Byte × (Head → BitVec 3 → Instr))),
    decode (h9 ++ [0x90, 0, 0, 1, p.1, 0, 0, 0, 0, 0, 0]) = .ok (p.2 ⟨0, 0, 0, 1⟩ 0) ⟨13, 5⟩ := by
  decide

theorem test_decode_df18_tc_twenty_four_to_thirty_one : ∀ p ∈ ([
    (0xC0, .unknownDf18Tc24), (0xC8, .unknownDf18Tc25), (0xD0, .unknownDf18Tc26),
    (0xD8, .unknownDf18Tc27), (0xE0, .unknownDf18Tc28), (0xE8, .unknownDf18Tc29),
    (0xF0, .unknownDf18Tc30), (0xF8, .unknownDf18Tc31)
    ] : List (Byte × (Head → BitVec 3 → Instr))),
    decode (h9 ++ [0x90, 0, 0, 1, p.1, 0, 0, 0, 0, 0, 0]) = .ok (p.2 ⟨0, 0, 0, 1⟩ 0) ⟨13, 5⟩ := by
  decide
/-- S5 and V21: the free fields of the prefix land in their operands. -/
theorem test_decode_operands :
    decode s5 = .ok (.identDf17Tc4 ⟨0, 0, 5, 0x841BD1⟩ 0) ⟨13, 5⟩ ∧
    decode [0x1A, 0x33, 1, 2, 3, 4, 5, 6, 0xFF, 0x8D, 0x40, 0x62, 0x1D, 0x58, 0xC3, 0x82] =
      .ok (.baroDf17Tc11 ⟨0x010203040506, 0xFF, 5, 0x40621D⟩ 0) ⟨13, 5⟩ := by decide

/-- P2's G5, P4's K1, G4 and V95 written as mnemonics, with V80's codes. -/
theorem test_assemble :
    assemble (.ident 17 1 ⟨0, 0, 5, 0xA00005⟩ 7 (.fill 32)) =
      h9 ++ [0x8D, 0xA0, 0, 5, 0x0F, 0x82, 0x08, 0x20, 0x82, 0x08, 0x20] ∧
    assemble (.ident 18 2 ⟨0, 0, 2, 0xA00006⟩ 3 ⟨14, 49, 50, 51, 1, 2, 32, 32⟩) =
      h9 ++ [0x92, 0xA0, 0, 6, 0x13, 0x3B, 0x1C, 0xB3, 0x04, 0x28, 0x20] ∧
    assemble (.baro 17 11 ⟨0, 0, 5, 0xA00001⟩ 0 0 500) =
      h9 ++ [0x8D, 0xA0, 0, 1, 0x58, 0x1F, 0x40] ∧
    assemble (.gnss 18 20 ⟨0, 0, 0, 0xA00004⟩ 3 1 0) =
      h9 ++ [0x90, 0xA0, 0, 4, 0xA7, 0, 0] ∧
    assemble (.unknown 17 19 ⟨0, 0, 5, 0x841BD1⟩ 5) =
      h9 ++ [0x8D, 0x84, 0x1B, 0xD1, 0x9D, 0, 0] := by decide

/-! ## DECODE: results -/

/-- S5. -/
theorem test_decode_s5 : image s5 = some ⟨20, 1, 17, 5, 0x841BD1, 4, 1,
    ⟨0x4B, 0x4C, 0x4D, 0x31, 0x30, 0x32, 0x33, 0x20⟩, 7, 0, 0, false⟩ := by decide
/-- V50. -/
theorem test_decode_v50 : image (h9 ++ [0x8D, 0x48, 0x40, 0xD6, 0x58, 0xC3, 0x80]) =
    some ⟨16, 1, 17, 5, 0x4840D6, 11, 2, ⟨0, 0, 0, 0, 0, 0, 0, 0⟩, 0, 3128, 0, false⟩ := by decide
/-- V59. -/
theorem test_decode_v59 : image (h9 ++ [0x8D, 0x48, 0x40, 0xD6, 0xA0, 0x12, 0x30]) =
    some ⟨16, 1, 17, 5, 0x4840D6, 20, 3, ⟨0, 0, 0, 0, 0, 0, 0, 0⟩, 0, 291, 0, false⟩ := by decide
/-- V95. -/
theorem test_decode_v95 : image (h9 ++ [0x8D, 0x84, 0x1B, 0xD1, 0x9D, 0, 0]) =
    some ⟨16, 1, 17, 5, 0x841BD1, 19, 0, ⟨0, 0, 0, 0, 0, 0, 0, 0⟩, 0, 0, 0, false⟩ := by decide
/-- The raw altitude that `FB[13..15]` give. -/
def altitudeOf (b13 b14 b15 : Byte) : Option (BitVec 12) :=
  (image (h9 ++ [0x8D, 0x48, 0x40, 0xD6, b13, b14, b15])).map RegImage.alt

/-- V52, V54, V56, V57, V58: the edges of the altitude field. -/
theorem test_decode_altitude_field :
    altitudeOf 0x5F 0xC3 0x80 = some 3128 ∧ altitudeOf 0x90 0xFF 0xFF = some 4095 ∧
    altitudeOf 0x48 0 0x10 = some 1 ∧ altitudeOf 0x48 0x80 0 = some 2048 ∧
    altitudeOf 0x48 0 0x0F = some 0 := by decide
/-- V71, V73, V75, V78: NUL is kept, spaces go only from the end, the edges of the letters. -/
theorem test_decode_callsigns : ∀ p ∈ ([
    ([0, 0, 0, 0, 0, 0], [0, 0, 0, 0, 0, 0, 0, 0]),
    ([0x82, 0x08, 0x20, 0x82, 0x08, 0x20], []),
    ([0x80, 0x18, 0x20, 0x82, 0x08, 0x20], [0x20, 0x41]),
    ([0x69, 0xB7, 0xE1, 0xBF, 0x0E, 0x7A], [0x5A, 0x1B, 0x1F, 0x21, 0x2F, 0x30, 0x39, 0x3A])] :
      List (List Byte × List Byte)),
    frameOf (h9 ++ [0x8D, 0xAB, 0xCD, 0xEF, 0x08] ++ p.1) =
      some ⟨17, 5, 0xABCDEF, .identification p.2⟩ := by
  decide +kernel

/-- V22, V24, S9, V26, V28: what a failed DECODE shows. -/
theorem test_decode_failures :
    image (0x1A :: 0x32 :: s5.drop 2) = some (failed 20 2) ∧
    image ([0x33, 0x1A] ++ List.replicate 14 0) = some (failed 16 2) ∧
    image (h9 ++ [0x05, 0x84, 0x1B, 0xD1, 0x20, 0x2C, 0xC3, 0x71, 0xC3, 0x2C, 0xE0]) =
      some (failed 20 3) ∧
    image ([0x1A, 0x33] ++ List.replicate 13 0) = some (failed 15 4) ∧
    image [] = some (failed 0 4) := by decide
/-- V90 to V93. -/
theorem test_decode_priority :
    statusOf ([0x1B, 0x33, 0, 0, 0, 0, 0, 0, 0, 0x05, 0x84, 0x1B, 0xD1, 0x20, 0]) = some 4 ∧
    statusOf ([0x1B, 0x33, 0, 0, 0, 0, 0, 0, 0, 0x05, 0x84, 0x1B, 0xD1, 0x20, 0, 0]) = some 2 ∧
    statusOf (h9 ++ [0x05, 0x84, 0x1B, 0xD1, 0x20, 0, 0]) = some 3 ∧
    statusOf (h9 ++ [0x8D, 0x84, 0x1B, 0xD1, 0x20, 0, 0]) = some 4 := by decide
/-- Table 2.3: `87` and `98` lie outside the accepted formats, `88` and `97` inside. -/
theorem test_decode_df_edges :
    statusOf (h9 ++ [0x87, 0, 0, 1, 0, 0, 0]) = some 3 ∧
    statusOf (h9 ++ [0x88, 0, 0, 1, 0, 0, 0]) = some 1 ∧
    statusOf (h9 ++ [0x97, 0, 0, 1, 0, 0, 0]) = some 1 ∧
    statusOf (h9 ++ [0x98, 0, 0, 1, 0, 0, 0]) = some 3 := by decide
/-- V99: a second record in the buffer is never decoded. -/
theorem test_decode_second_record_ignored :
    frameOf (s5 ++ h9 ++ [0x8D, 0x40, 0x62, 0x1D, 0x58, 0xC3, 0x82]) = frameOf s5 := by decide

/-! ## The opcode table's words -/

/-- A BARO row's word in both numberings of its bytes; then DECODE runs it first after reset. -/
theorem test_table_word :
    decodeTableWord 112 0x580000008800000000000000331A = some (.baroDf17Tc11 ⟨0, 0, 0, 0⟩ 0) ∧
    decodeTableWord 112 0x1A33000000000000008800000058 = some (.baroDf17Tc11 ⟨0, 0, 0, 0⟩ 0) ∧
    ((nextOf (step (State.reset.withFetchWord 112 0x1A33000000000000008800000058))).map
      State.regImage) =
      some ⟨20, 1, 17, 0, 0, 11, 2, ⟨0, 0, 0, 0, 0, 0, 0, 0⟩, 0, 0, 0, false⟩ := by decide

/-! ## UPDATE, LOOKUP, RENDER -/

/-- The registers of `OK(17, 5, a, _)` over a table, with UPDATE next. -/
def decoded (tbl : Table) (a : BitVec 24) (k : Kind) (cs : Eight Byte) (n : BitVec 4)
    (alt : BitVec 12) : State :=
  { State.reset with
    rStatus := .ok, rDf := 17, rCa := 5, rAddr := a, rKind := k, rCs := cs, rCsLen := n
    rAlt := alt, table := tbl, pending := [.update] }

/-- The text `KLM1023`. -/
def klm1023 : List Byte := [0x4B, 0x4C, 0x4D, 0x31, 0x30, 0x32, 0x33]

/-- Its eight bytes before trimming. -/
def klm1023Bytes : Eight Byte := ⟨0x4B, 0x4C, 0x4D, 0x31, 0x30, 0x32, 0x33, 0x20⟩

/-- V110, V112, V114: each update sets its own field. -/
theorem test_update :
    (nextOf (step (decoded [] 0x841BD1 .ident klm1023Bytes 7 0))).map State.table =
      some [(0x841BD1, ⟨klm1023, 0⟩)] ∧
    (nextOf (step (decoded [(0x841BD1, ⟨klm1023, 0⟩)] 0x841BD1 .gnss (.fill 0) 0 291))).map
      State.table = some [(0x841BD1, ⟨klm1023, 291⟩)] ∧
    (nextOf (step (decoded [(0x841BD1, ⟨klm1023, 291⟩)] 0x841BD1 .baro (.fill 0) 0 0))).map
      State.table = some [(0x841BD1, ⟨klm1023, 0⟩)] := by decide
/-- V116, V118. -/
theorem test_update_unknown :
    ((nextOf (step (decoded [] 0x841BD1 .unknown (.fill 0) 0 0))).map fun s =>
      (s.table, s.rUpd.code)) = some ([], 2) ∧
    ((nextOf (step (decoded [] 0x841BD1 .gnss (.fill 0) 0 0))).map fun s =>
      (s.table, s.rUpd.code)) = some ([(0x841BD1, ⟨[], 0⟩)], 1) := by decide
/-- V120, V121: a table of capacity 2. -/
theorem test_update_full_table :
    ((updateTable 2 (decoded [(1, ⟨[], 0⟩), (2, ⟨[], 0⟩)] 3 .baro (.fill 0) 0 7)).table,
      (updateTable 2 (decoded [(1, ⟨[], 0⟩), (2, ⟨[], 0⟩)] 3 .baro (.fill 0) 0 7)).rUpd.code) =
        ([(1, ⟨[], 0⟩), (2, ⟨[], 0⟩)], 3) ∧
    (updateTable 2 (decoded [(1, ⟨[], 0⟩), (2, ⟨[], 0⟩)] 2 .baro (.fill 0) 0 7)).table =
      [(1, ⟨[], 0⟩), (2, ⟨[], 7⟩)] := by decide
/-- P2: `LOOKUP` of an invisible entry and of an absent address. -/
theorem test_lookup :
    (nextOf (execLookup 0xA00004 { State.reset with table := [(0xA00004, ⟨[], 0⟩)] })).map
      State.reply = some (.entry (some ⟨[], 0⟩)) ∧
    (nextOf (execLookup 0xA00007 { State.reset with table := [(0xA00004, ⟨[], 0⟩)] })).map
      State.reply = some (.entry none) := by decide
/-- V133 and V131, whatever the order of ties. -/
theorem test_render_sorts (rank : BitVec 24 → Nat) :
    renderTable rank [(1, ⟨[], 500⟩), (2, ⟨[], 100⟩), (3, ⟨[], 300⟩)] =
      [⟨2, [], 100⟩, ⟨3, [], 300⟩, ⟨1, [], 500⟩] ∧ renderTable rank [(1, ⟨[], 0⟩)] = [] :=
  ⟨rfl, rfl⟩
/-- V134: both orders of the tie. -/
theorem test_render_ties :
    renderTable (fun a => a.toNat) [(1, ⟨[0x58], 0⟩), (2, ⟨[], 300⟩), (3, ⟨[0x59], 300⟩)] =
      [⟨1, [0x58], 0⟩, ⟨2, [], 300⟩, ⟨3, [0x59], 300⟩] ∧
    renderTable (fun a => 9 - a.toNat) [(1, ⟨[0x58], 0⟩), (2, ⟨[], 300⟩), (3, ⟨[0x59], 300⟩)] =
      [⟨1, [0x58], 0⟩, ⟨3, [0x59], 300⟩, ⟨2, [], 300⟩] := by decide
/-- Text lines of P2 and P4. -/
theorem test_record_lines :
    recordLine ⟨0xA00002, [], 100⟩ =
      [0x61, 0x30, 0x30, 0x30, 0x30, 0x32, 0x09, 0x4E, 0x2F, 0x41, 0x09, 0x31, 0x30, 0x30] ++
        Config.unitSuffix ∧
    recordLine ⟨0xA00006, [0x4E, 0x31], 0⟩ =
      [0x61, 0x30, 0x30, 0x30, 0x30, 0x36, 0x09, 0x4E, 0x31, 0x09, 0x4E, 0x2F, 0x41] :=
  ⟨rfl, rfl⟩
/-- V40, V43. -/
theorem test_hex6 :
    hex6 0x841BD1 = [0x38, 0x34, 0x31, 0x62, 0x64, 0x31] ∧
    hex6 0x00000A = [0x30, 0x30, 0x30, 0x30, 0x30, 0x61] := by decide

/-! ## Commands -/

/-- P3, step 7: UPDATE after a failed DECODE is a no-op. -/
theorem test_update_after_failure :
    ((nextOf (execUpdate { State.reset with rStatus := .errExhausted, rUpd := .done })).map fun s =>
      s.rUpd.code) = some 2 := by decide
/-- R211: LOAD of the S5 frame (it fits every buffer of 20 bytes). -/
theorem test_load : ∃ t, execLoad s5 State.reset = .next t ∧ t.rLen = 20 ∧
    t.frameBytes = some s5 ∧ t.rStatus = .none := by
  refine ⟨complete (State.reset.withFrame s5), ?_, rfl, State.frameBytes_withFrame _ _, rfl⟩
  have h : ¬ Config.bufCap < s5.length := by simp [Config.bufCap, s5, h9]
  simp [execLoad, h, State.reset]
/-- P1, step 1: PROCESS of F1, observed through the table. -/
theorem test_process : ∃ t, execProcess
    (h9 ++ [0x8D, 0x48, 0x40, 0xD6, 0x20, 0x2C, 0xC3, 0x71, 0xC3, 0x2C, 0xE0]) State.reset =
      .next t ∧ t.table = [(0x4840D6, ⟨klm1023, 0⟩)] ∧ t.rUpd = .done ∧ t.rTc = 4 := by
  have h : ¬ Config.bufCap < (h9 ++ [0x8D, 0x48, 0x40, 0xD6, 0x20, 0x2C, 0xC3, 0x71, 0xC3, 0x2C,
      0xE0] : List Byte).length := by simp [Config.bufCap, h9]
  unfold execProcess execLoad
  simp only [if_neg h, State.reset]
  exact ⟨_, rfl, rfl, rfl, rfl⟩
/-- P5, step 15, from a halted block with a table. -/
theorem test_reset :
    ((nextOf (step { decoded [(1, ⟨[], 5⟩)] 1 .baro (.fill 0) 0 7 with
      halted := true, rUpd := .done, pending := [.reset] })).map fun s =>
        (s.table, s.regImage)) = some ([], failed 0 0) := by decide
/-- R219. -/
theorem test_halted_refuses :
    ((nextOf (step { decoded [] 1 .baro (.fill 0) 0 7 with halted := true })).map fun s =>
      (s.table, s.rUpd, s.reply)) = some ([], .none, .refused) := by decide

/-! ## Witnesses: concrete states and operands that meet each statement's hypotheses -/

theorem witness_FieldIsSumOfItsFrameBits :
    1 ≤ 2 ∧ 7 + 2 ≤ 8 * ([0xA5, 0xC3] : List Byte).length ∧ fbits [0xA5, 0xC3] 7 2 = 3 := by decide
theorem witness_AdjacentFieldsAgreeWithOneField :
    take [0xA5, 0xC3] 12 ⟨0, 0⟩ = .ok 2652 ⟨1, 4⟩ ∧ skip [0xA5, 0xC3] 3 ⟨0, 0⟩ = .ok () ⟨0, 3⟩ := by
  decide
/-- 4 bits left: 5 are too many, 4 end the buffer. -/
theorem witness_TakeReadsOrIsExhausted :
    8 * ([0xA5, 0xC3] : List Byte).length - (8 * 1 + 4) < 5 ∧
    ¬ 8 * ([0xA5, 0xC3] : List Byte).length - (8 * 1 + 4) < 4 ∧
    8 * 1 + 4 + 4 = 8 * ([0xA5, 0xC3] : List Byte).length := by decide
theorem witness_StagesReadTheirFieldsAndLandWhereTabled :
    20 ≤ s5.length ∧ byteAt s5 0 = 0x1A ∧ byteAt s5 1 = 0x33 := by decide
theorem witness_DecodeOfEncodeIsTheInstruction : 2 ≤ ([0, 0] : List Byte).length := by decide
theorem witness_EncodeOfDecodeIsTheBytes :
    decode s5 = .ok (.identDf17Tc4 ⟨0, 0, 5, 0x841BD1⟩ 0) ⟨13, 5⟩ := by decide
/-- A buffer that selects the row and one that does not. -/
theorem witness_RowIsSelectedByMaskAndMatch :
    16 ≤ s5.length ∧ List.zipWith (· &&& ·) (s5.take 14) rowMask = rowMatch 17 4 ∧
    List.zipWith (· &&& ·) (s5.take 14) rowMask ≠ rowMatch 18 4 := by decide
theorem witness_ClassIsTheRangeOfTheTypeCode :
    decode (h9 ++ [0x88, 0, 0, 1, 0xB8, 0, 0]) = .ok (.unknownDf17Tc23 ⟨0, 0, 0, 1⟩ 0) ⟨13, 5⟩ := by
  decide
theorem witness_AssembledFrameDecodesToItsOperands :
    (FrameText.ident 17 1 ⟨0, 0, 5, 0xA00005⟩ 7 (.fill 32)).wf = true ∧
    Ready (holding (assemble (.ident 17 1 ⟨0, 0, 5, 0xA00005⟩ 7 (.fill 32)) ++ [0xFF]) []) .decode []
      (assemble (.ident 17 1 ⟨0, 0, 5, 0xA00005⟩ 7 (.fill 32)) ++ [0xFF]) :=
  ⟨by decide, ready_holding _ _⟩
theorem witness_ShortBufferIsExhausted : (s5.take 15).length < 16 ∧ 16 ≤ (s5.take 16).length := by
  decide
theorem witness_MarkerMismatchIsNotAFrame :
    16 ≤ (s5.take 16).length ∧ byteAt (0x1A :: 0x32 :: s5.drop 2) 1 ≠ 0x33 ∧
    16 ≤ (0x1A :: 0x32 :: s5.drop 2).length := by decide
/-- Downlink format 16, the nearest below the accepted ones. -/
theorem witness_UnacceptedFormatIsRejectedAfterTheAddress :
    16 ≤ (h9 ++ [0x87, 0, 0, 1, 0, 0, 0]).length ∧
    byteAt (h9 ++ [0x87, 0, 0, 1, 0, 0, 0]) 0 = 0x1A ∧
    byteAt (h9 ++ [0x87, 0, 0, 1, 0, 0, 0]) 1 = 0x33 ∧
    decode (h9 ++ [0x87, 0, 0, 1, 0, 0, 0]) = .raise .badDf ⟨13, 0⟩ := by decide
theorem witness_DecodeEqualsItsClosedForm : Ready (holding s5 []) .decode [] s5 :=
  ready_holding _ _
theorem witness_DecodeStatusByPriority : Ready (holding s5 []) .decode [] s5 := ready_holding _ _
theorem witness_FailedDecodeShowsNoFrame :
    ∃ t, step (holding (s5.take 19) []) = .next t ∧ t.rStatus ≠ .ok := ⟨_, rfl, by decide⟩
theorem witness_FailureEntryWritesOnlyTheResult :
    (∃ t, step (holding (s5.take 19) []) = .next t ∧ t.rStatus ≠ .ok) ∧
    Ready (holding (s5.take 15) []) .decode [] (s5.take 15) ∧
    decode (s5.take 15) = .raise .exhausted ⟨0, 0⟩ :=
  ⟨⟨_, rfl, by decide⟩, ready_holding _ _, by decide⟩
theorem witness_DecodedFrameSatisfiesFrameRules :
    ∃ t, step (holding s5 []) = .next t ∧ t.rStatus = .ok ∧ t.rKind = .ident := ⟨_, rfl, by decide⟩
theorem witness_DecodeIsAFunctionOfTheBuffer :
    Ready (holding s5 [.decode]) .decode [.decode] s5 ∧ Ready (holding s5 []) .decode [] s5 :=
  ⟨ready_holding _ _, ready_holding _ _⟩
/-- Timestamp and signal differ, and the low nibble of byte 15 of an altitude frame. -/
theorem witness_DontCareBitsDoNotMatter :
    let b := h9 ++ [0x8D, 0x48, 0x40, 0xD6, 0x58, 0xC3, 0x80]
    let d := [0x1A, 0x33, 1, 2, 3, 4, 5, 6, 7, 0x8D, 0x48, 0x40, 0xD6, 0x5F, 0xC3, 0x87]
    Ready (holding b []) .decode [] b ∧ Ready (holding d []) .decode [] d ∧ b.length = d.length ∧
    ∀ k < 20, b.getD k 0 &&& (careMask (byteAt b 13 / 8)).getD k 0 =
      d.getD k 0 &&& (careMask (byteAt b 13 / 8)).getD k 0 :=
  ⟨ready_holding _ _, ready_holding _ _, rfl, by decide⟩
theorem witness_TrailingBytesAreIgnored :
    Ready (holding s5 []) .decode [] s5 ∧
    Ready (holding (s5 ++ [0xAA]) []) .decode [] (s5 ++ [0xAA]) ∧ 20 ≤ s5.length :=
  ⟨ready_holding _ _, ready_holding _ _, by decide⟩
/-- The four lengths, each with its character. -/
theorem witness_CutIdentificationFailsAtItsCharacter : ∀ p ∈ [(16, 3), (17, 5), (18, 6), (19, 7)],
    Ready (holding (s5.take p.1) []) .decode [] (s5.take p.1) ∧ byteAt (s5.take p.1) 0 = 0x1A ∧
    byteAt (s5.take p.1) 1 = 0x33 ∧ byteAt (s5.take p.1) 9 / 8 = 17 ∧
    byteAt (s5.take p.1) 13 / 8 = 4 ∧ (s5.take p.1).length = p.1 := by
  intro p hp
  refine ⟨ready_holding _ _, ?_⟩
  revert p
  decide
theorem witness_MisalignedIdentificationHalts :
    (Instr.identDf17Tc4 ⟨0, 0, 5, 0x841BD1⟩ 0).cls = .ident ∧
    ({ holding s5 [] with cur := ⟨13, 4⟩ } : State).frameBytes = some s5 ∧
    ({ holding s5 [] with cur := ⟨13, 4⟩ } : State).cur.off.val ≠ 5 ∧
    ({ holding s5 [] with cur := ⟨13, 4⟩ } : State).cur.pos + 3 ≤ 8 * s5.length :=
  ⟨rfl, State.frameBytes_withFrame State.reset s5, by decide, by decide⟩
theorem witness_MisalignmentIsUnreachable :
    ∃ t, step (holding s5 []) = .next t ∧ (holding s5 []).halted = false ∧
      (holding s5 []).rStatus ≠ .errMisalign := ⟨_, rfl, rfl, by decide⟩
/-- The cursor and buffer an IDENT, BARO or GNSS row needs, at the least lengths and one below. -/
theorem witness_rows_complete (n : Nat) (_ : n ∈ [16, 19, 20]) :
    ({ holding (s5.take n) [] with cur := ⟨13, 5⟩ } : State).cur = ⟨13, 5⟩ ∧
    ({ holding (s5.take n) [] with cur := ⟨13, 5⟩ } : State).frameBytes = some (s5.take n) :=
  ⟨rfl, State.frameBytes_withFrame State.reset (s5.take n)⟩
theorem witness_RowsWriteOnlyCursorAndResult :
    ∃ t, exec (.gnssDf18Tc22 ⟨0, 0, 5, 0x841BD1⟩ 0) { holding s5 [] with cur := ⟨13, 5⟩ } =
      .next t := ⟨_, rfl⟩
theorem witness_StepRunsTheDecodedInstruction :
    Ready (holding s5 []) .decode [] s5 ∧
    decode s5 = .ok (.identDf17Tc4 ⟨0, 0, 5, 0x841BD1⟩ 0) ⟨13, 5⟩ :=
  ⟨ready_holding _ _, by decide⟩
/-- Codes at the edges of the two arms. -/
theorem witness_CharacterMapping :
    (1 : BitVec 6).toNat ≤ 26 ∧ (26 : BitVec 6).toNat ≤ 26 ∧ ¬ 1 ≤ (0 : BitVec 6).toNat ∧
    ¬ (27 : BitVec 6).toNat ≤ 26 ∧ ch 26 = 0x5A ∧ ch 27 = 0x1B ∧ ch 0 = 0 ∧ ch 1 = 0x41 := by decide

/-- A full table: 2^24 entries that all list address 0 (no canonical table is full without the
address, see `TableIsNeverFull`). -/
def fullTable : Table := List.replicate (2 ^ 24) (0, ⟨[], 0⟩)

theorem get_replicate (n : Nat) (e : Entry) :
    Table.get (List.replicate n (0, e)) 1 = none := by
  induction n with
  | zero => rfl
  | succ n ih => rw [List.replicate_succ, Table.get, if_neg (by decide), ih]

/-- The four cases of UPDATE: full, room for a new address, an address present, halted. -/
theorem witness_UpdateFollowsItsCases :
    ((decoded fullTable 1 .baro (.fill 0) 0 7).table.get 1 = none ∧
      (decoded fullTable 1 .baro (.fill 0) 0 7).table.length = 2 ^ 24) ∧
    ((decoded [] 1 .baro (.fill 0) 0 7).table.get 1 = none ∧
      (decoded [] 1 .baro (.fill 0) 0 7).table.length ≠ 2 ^ 24) ∧
    (decoded [(1, ⟨[], 5⟩)] 1 .baro (.fill 0) 0 7).table.get 1 = some ⟨[], 5⟩ ∧
    ({ decoded [] 1 .baro (.fill 0) 0 7 with halted := true } : State).pending = [.update] :=
  ⟨⟨get_replicate _ _, List.length_replicate⟩, ⟨rfl, by decide⟩, by decide, rfl⟩
theorem witness_UnknownFrameCreatesNoEntry :
    (decoded [] 1 .unknown (.fill 0) 0 0).pending = .update :: [] ∧
    (decoded [] 1 .unknown (.fill 0) 0 0).halted = false ∧
    (decoded [] 1 .unknown (.fill 0) 0 0).rStatus = .ok ∧
    (decoded [] 1 .unknown (.fill 0) 0 0).rKind = .unknown := by decide
/-- P1's two frames; the reversed order exchanges them. -/
theorem witness_TwoUpdatesFillBothFields :
    TableOk (decoded [] 1 .ident klm1023Bytes 7 0).table ∧
    (decoded [] 1 .ident klm1023Bytes 7 0).pending = .update :: [] ∧
    (decoded [] 1 .baro (.fill 0) 0 3128).pending = .update :: [] ∧
    (decoded [] 1 .ident klm1023Bytes 7 0).rAddr = (decoded [] 1 .baro (.fill 0) 0 3128).rAddr ∧
    (decoded [] 1 .ident klm1023Bytes 7 0).table.get 1 = none :=
  ⟨⟨rfl, Nat.zero_le _, by simp [decoded]⟩, rfl, rfl, rfl, rfl⟩
theorem witness_RepeatedUpdateChangesNothing :
    ({ decoded [] 1 .baro (.fill 0) 0 7 with pending := [.update, .update] } : State).pending =
      .update :: .update :: [] ∧ (decoded [] 1 .baro (.fill 0) 0 7).halted = false := by decide
/-- The table of the second clause is full at capacity 2. -/
theorem witness_TableIsNeverFull :
    TableOk (decoded [(1, ⟨[], 0⟩), (2, ⟨[], 0⟩)] 3 .baro (.fill 0) 0 7).table ∧
    (decoded [(1, ⟨[], 0⟩), (2, ⟨[], 0⟩)] 3 .baro (.fill 0) 0 7).table.length = 2 ∧
    (decoded [(1, ⟨[], 0⟩), (2, ⟨[], 0⟩)] 3 .baro (.fill 0) 0 7).table.get 3 = none ∧
    (decoded [(1, ⟨[], 0⟩), (2, ⟨[], 0⟩)] 2 .baro (.fill 0) 0 7).table.get 2 = some ⟨[], 0⟩ :=
  ⟨⟨rfl, by decide, by decide⟩, rfl, rfl, rfl⟩
/-- UPDATE of an entry that stands in the table and of a new one, and a command that leaves it. -/
theorem witness_TableOnlyGrowsOneFieldAtATime :
    (∃ t, step (decoded [(1, ⟨klm1023, 0⟩)] 1 .baro (.fill 0) 0 7) = .next t ∧ t.rAddr = 1 ∧
      t.table.get 1 = some ⟨klm1023, 7⟩ ∧ Command.update ≠ .reset) ∧
    (∃ t, step (decoded [(1, ⟨klm1023, 0⟩)] 2 .ident klm1023Bytes 7 0) = .next t ∧ t.rAddr = 2 ∧
      t.table.get 2 = some ⟨klm1023, 0⟩ ∧ t.table.get 1 = some ⟨klm1023, 0⟩) ∧
    (∃ t, step (holding s5 []) = .next t ∧ Command.decode ≠ .update ∧ Command.decode ≠ .reset ∧
      ∀ bytes, Command.decode ≠ .process bytes) :=
  ⟨⟨_, rfl, rfl, rfl, by decide⟩, ⟨_, rfl, rfl, rfl, rfl⟩, ⟨_, rfl, by decide, by decide, by simp⟩⟩
theorem witness_LookupReturnsTheEntry :
    ({ State.reset with pending := [.lookup 1] } : State).pending = .lookup 1 :: [] ∧
    ({ State.reset with pending := [.lookup 1] } : State).halted = false := by decide

/-- A state with a decoded frame, two visible entries of equal altitude and two RENDERs to come. -/
def busy : State :=
  { State.reset.withFrame s5 with
    rStatus := .ok, rDf := 17, rCa := 5, rAddr := 0x841BD1, rTc := 4, rKind := .ident
    rCs := klm1023Bytes, rCsLen := 7, table := [(2, ⟨[], 300⟩), (3, ⟨[0x59], 300⟩)]
    pending := [.render, .render] }

theorem busy_table : TableOk busy.table := ⟨by decide, by decide, by decide⟩
theorem witness_RenderedListIsCorrect :
    TableOk busy.table ∧ busy.pending = .render :: [.render] ∧ busy.halted = false :=
  ⟨busy_table, rfl, rfl⟩
/-- The order that `test_render_ties` gives second. -/
theorem witness_EveryTieOrderIsPossible :
    busy.table.wf = true ∧ RenderCorrect busy.table [⟨3, [0x59], 300⟩, ⟨2, [], 300⟩] := by
  refine ⟨by decide, by decide, ?_, by decide⟩
  rintro ⟨a, cs, alt⟩
  by_cases h2 : a = 2
  · subst h2; simp [busy, Table.get]
  · by_cases h3 : a = 3
    · subst h3; simp [busy, Table.get]
    · have g : busy.table.get a = none := by
        simp only [busy, Table.get]; rw [if_neg h2, if_neg h3]
      rw [g]; simp_all
theorem witness_RenderIsReadOnly :
    busy.pending = .render :: .render :: [] ∧ busy.halted = false := ⟨rfl, rfl⟩
theorem witness_LoadWritesItsBytesOnly :
    ({ State.reset with pending := [.load s5] } : State).pending = .load s5 :: [] ∧
    ({ State.reset with pending := [.load s5] } : State).halted = false ∧
    ({ State.reset with pending := [.load s5], halted := true } : State).halted = true ∧
    s5.length ≤ Config.bufCap := ⟨rfl, rfl, rfl, by simp [Config.bufCap, s5, h9]⟩
/-- One byte more than the buffer holds. -/
theorem witness_OversizedLoadIsRefused :
    ({ State.reset with pending := [.load (.replicate (Config.bufCap + 1) 0)] } : State).pending =
      .load (.replicate (Config.bufCap + 1) 0) :: [] ∧
    Config.bufCap < (List.replicate (Config.bufCap + 1) (0 : Byte)).length := ⟨rfl, by simp⟩
theorem witness_ProcessIsTheThreeCommands :
    ({ State.reset with pending := [.process s5] } : State).pending = .process s5 :: [] ∧
    ({ State.reset with pending := [.process s5] } : State).halted = false ∧
    s5.length ≤ Config.bufCap := ⟨rfl, rfl, by simp [Config.bufCap, s5, h9]⟩
theorem witness_ResetRestoresEveryRegister :
    ({ busy with pending := [.reset], halted := true } : State).pending = .reset :: [] := rfl
theorem witness_HaltedBlockServesOnlyReset :
    ({ busy with halted := true } : State).pending = .render :: [.render] ∧
    ({ busy with halted := true } : State).halted = true ∧ Command.render ≠ .reset :=
  ⟨rfl, rfl, by decide⟩
theorem witness_IdleBlockKeepsItsState : ({ busy with pending := [] } : State).pending = [] := rfl
theorem witness_CommandsWriteOnlyTheirColumn :
    ∃ t, step (holding s5 []) = .next t ∧ (holding s5 []).pending = .decode :: [] := ⟨_, rfl, rfl⟩
/-- The invariant holds of a block that is not fresh from reset. -/
theorem witness_EveryStepKeepsTheInvariant : Inv busy ∧ ∃ t, step busy = .next t := by
  refine ⟨⟨⟨by decide, ?_, by simp [busy, State.withFrame, Config.bufCap, s5, h9], by decide⟩,
    busy_table, rfl, by decide, ?_, ?_⟩, _, rfl⟩
  · have h : ∀ p ∈ busy.fb, p.1 < 20 := by decide
    intro p hp
    have := h p hp
    simp only [Config.bufCap]; omega
  · intro h; exact absurd rfl h
  · intro _; exact ⟨by decide, by decide, by decide, by decide, by decide, by decide⟩
theorem witness_NoStepStops : Inv busy := witness_EveryStepKeepsTheInvariant.1

end Sys2Proof.Tests
end

section
/-! SUPPORT. A field of the frame as the sum of its frame bits (R12). -/

namespace Sys2Proof

/-- The recursion of `fbits` as a closed sum. A bit past the
buffer reads as 0, so no bound on `n + w` is needed. -/
theorem fbits_eq_sum (b : List Byte) (n w : Nat) :
    fbits b n w =
      ((List.range w).map fun i => (frameBit b (n + i)).toNat * 2 ^ (w - 1 - i)).sum := by
  induction w generalizing n with
  | zero => rfl
  | succ w ih =>
    have shifted (i : Nat) : (frameBit b (n + (i + 1))).toNat * 2 ^ (w - (i + 1)) =
        (frameBit b (n + 1 + i)).toNat * 2 ^ (w - 1 - i) := by
      rw [Nat.add_right_comm n 1 i, Nat.add_assoc n i 1, Nat.sub_sub, Nat.add_comm 1 i]
    simp only [fbits, ih, List.range_succ_eq_map, List.map_cons, List.map_map, List.sum_cons,
      Function.comp_def, Nat.succ_eq_add_one, Nat.add_zero, Nat.add_sub_cancel, Nat.sub_zero,
      shifted]

/-- Settles O1: the closed sum of `fbits_eq_sum` with its bits written as R11 writes them. -/
theorem fieldIsSumOfItsFrameBits : Obligations.FieldIsSumOfItsFrameBits := by
  unfold Obligations.FieldIsSumOfItsFrameBits
  intro b n w _ _
  simp only [fbits_eq_sum, frameBit, Bool.toNat, Bool.cond_eq_ite]

end Sys2Proof
end

section
/-! SUPPORT. The text of an address (R17): a digit and its value are inverse to each other, and so
are the six digits of an address and the number they write in base 16. -/

namespace Sys2Proof.Machine

/-- One of the sixteen characters `0123456789abcdef`, as a range of codes. -/
def IsHexChar (v : Byte) : Prop :=
  (0x30 ≤ v.toNat ∧ v.toNat ≤ 0x39) ∨ (0x61 ≤ v.toNat ∧ v.toNat ≤ 0x66)

/-- The value of a hexadecimal digit: the inverse of `hexDigit`. -/
def hexValue (v : Byte) : BitVec 4 :=
  if v.toNat ≤ 0x39 then BitVec.ofNat 4 (v.toNat - 0x30) else BitVec.ofNat 4 (v.toNat - 0x57)

/-- The address a text of hexadecimal digits writes: the inverse of `hex6`. -/
def addressOfText (t : List Byte) : BitVec 24 :=
  BitVec.ofNat 24 (t.foldl (fun acc v => 16 * acc + (hexValue v).toNat) 0)

theorem isHexChar_hexDigit (n : BitVec 4) : IsHexChar (hexDigit n) := by
  have hn := n.isLt
  unfold IsHexChar hexDigit
  split <;> simp only [BitVec.toNat_ofNat] <;> omega

@[simp] theorem hexValue_hexDigit (n : BitVec 4) : hexValue (hexDigit n) = n := by
  revert n
  decide

theorem hexDigit_hexValue {v : Byte} (h : IsHexChar v) : hexDigit (hexValue v) = v := by
  apply BitVec.eq_of_toNat_eq
  obtain ⟨lo, hi⟩ | ⟨lo, hi⟩ := h
  · have value : (hexValue v).toNat = v.toNat - 0x30 := by
      rw [hexValue, if_pos hi, BitVec.toNat_ofNat]
      omega
    rw [hexDigit, value, if_pos (by omega), BitVec.toNat_ofNat]
    omega
  · have value : (hexValue v).toNat = v.toNat - 0x57 := by
      rw [hexValue, if_neg (by omega), BitVec.toNat_ofNat]
      omega
    rw [hexDigit, value, if_neg (by omega), BitVec.toNat_ofNat]
    omega

/-- An address is the number its six digits write in base 16. -/
theorem addressOfText_hex6 (a : BitVec 24) : addressOfText (hex6 a) = a := by
  have ha := a.isLt
  apply BitVec.eq_of_toNat_eq
  simp only [addressOfText, hex6, List.foldl_cons, List.foldl_nil, hexValue_hexDigit,
    BitVec.extractLsb'_toNat, BitVec.toNat_ofNat, Nat.shiftRight_eq_div_pow]
  omega

/-- The nibbles of the number that six digits write are the digits' values. -/
theorem hex6_addressOfText (v₅ v₄ v₃ v₂ v₁ v₀ : Byte) :
    hex6 (addressOfText [v₅, v₄, v₃, v₂, v₁, v₀]) =
      [v₅, v₄, v₃, v₂, v₁, v₀].map (hexDigit ∘ hexValue) := by
  have h₅ := (hexValue v₅).isLt
  have h₄ := (hexValue v₄).isLt
  have h₃ := (hexValue v₃).isLt
  have h₂ := (hexValue v₂).isLt
  have h₁ := (hexValue v₁).isLt
  have h₀ := (hexValue v₀).isLt
  simp only [hex6, List.map_cons, List.map_nil, Function.comp_apply]
  congr <;>
  · apply BitVec.eq_of_toNat_eq
    simp only [addressOfText, List.foldl_cons, List.foldl_nil, BitVec.extractLsb'_toNat,
      BitVec.toNat_ofNat, Nat.shiftRight_eq_div_pow]
    omega

theorem hex6_injective : Function.Injective hex6 :=
  Function.LeftInverse.injective addressOfText_hex6

theorem isHexChar_of_mem_hex6 (a : BitVec 24) : ∀ v ∈ hex6 a, IsHexChar v := by
  simp only [hex6, List.forall_mem_cons, isHexChar_hexDigit, List.not_mem_nil, true_and,
    false_implies, implies_true]

/-- Every text of six hexadecimal digits is the text of the address it writes. -/
theorem hex6_addressOfText_of_isHexChar {t : List Byte} (len : t.length = 6)
    (digits : ∀ v ∈ t, IsHexChar v) : hex6 (addressOfText t) = t := by
  obtain ⟨v₅, v₄, v₃, v₂, v₁, v₀, rfl⟩ : ∃ v₅ v₄ v₃ v₂ v₁ v₀, t = [v₅, v₄, v₃, v₂, v₁, v₀] := by
    match t, len with
    | [v₅, v₄, v₃, v₂, v₁, v₀], _ => exact ⟨v₅, v₄, v₃, v₂, v₁, v₀, rfl⟩
  rw [hex6_addressOfText]
  calc [v₅, v₄, v₃, v₂, v₁, v₀].map (hexDigit ∘ hexValue)
      = [v₅, v₄, v₃, v₂, v₁, v₀].map id :=
        List.map_congr_left fun v hv => hexDigit_hexValue (digits v hv)
    _ = [v₅, v₄, v₃, v₂, v₁, v₀] := List.map_id _

/-- Settles O33: `addressOfText` is inverse to `hex6` on both sides. -/
theorem addressTextIsABijection : Obligations.AddressTextIsABijection := by
  unfold Obligations.AddressTextIsABijection
  refine ⟨fun a c h => hex6_injective h, fun a => ⟨rfl, isHexChar_of_mem_hex6 a⟩, ?_⟩
  intro t len digits
  exact ⟨addressOfText t, hex6_addressOfText_of_isHexChar len digits⟩

end Sys2Proof.Machine
end

section
/-! SUPPORT. Where a stage of the payload ends, what a payload decoder can give, and from both what
one row of the opcode table can do to the state. -/

namespace Sys2Proof

/-- A stage that ends at frame bit `p` when it succeeds, and can fail only for want of bits. -/
inductive Stage.EndsAt {α : Type} (p : Nat) : Stage α → Prop where
  | ok (a : α) : EndsAt p (.ok a (.ofPos p))
  | raise (c : Cursor) : EndsAt p (.raise .exhausted c)

theorem Stage.EndsAt.andThen {α β : Type} {r : Stage α} {k : α → Cursor → Stage β} {p q : Nat}
    (first : r.EndsAt p) (next : ∀ a, (k a (.ofPos p)).EndsAt q) : (r.andThen k).EndsAt q := by
  cases first with
  | ok a => exact next a
  | raise c => exact .raise c

theorem Stage.EndsAt.raise_eq {α : Type} {p : Nat} {x : Failure} {c : Cursor}
    (ends : (Stage.raise x c : Stage α).EndsAt p) : x = .exhausted := by
  cases ends
  rfl

theorem take_endsAt (b : List Byte) (w p : Nat) {hw : 0 < w ∧ w ≤ 32} :
    (take b w (.ofPos p) hw).EndsAt (p + w) := by
  by_cases short : 8 * b.length < p + w
  · rw [take_exhausted short]
    exact .raise _
  · rw [take_ofPos (Nat.le_of_not_lt short)]
    exact .ok _

theorem skip_endsAt (b : List Byte) (w p : Nat) {hw : 0 < w ∧ w ≤ 64} :
    (skip b w (.ofPos p) hw).EndsAt (p + w) := by
  by_cases short : 8 * b.length < p + w
  · rw [skip_exhausted short]
    exact .raise _
  · rw [skip_ofPos (Nat.le_of_not_lt short)]
    exact .ok _

theorem alignCheck_endsAt {p : Nat} (aligned : p % 8 = 0) : (alignCheck (.ofPos p)).EndsAt p := by
  rw [alignCheck_ofPos aligned]
  exact .ok ()

/-- Every constructor of `Instr` names a row of the opcode table. -/
theorem Instr.wf_eq_true (i : Instr) : i.wf = true := by
  cases i <;> rfl

theorem Instr.df_accepted (i : Instr) : i.df = 17 ∨ i.df = 18 := by
  have row := i.wf_eq_true
  simp only [Instr.wf, rowOk, dfAccepted, Bool.and_eq_true, Bool.or_eq_true, beq_iff_eq] at row
  exact row.1

theorem Instr.classOf_tc (i : Instr) : classOf i.tc = i.cls := by
  have row := i.wf_eq_true
  simp only [Instr.wf, rowOk, Bool.and_eq_true, beq_iff_eq] at row
  exact row.2

/-- Decoding the first 14 bytes leaves the cursor at the payload when it succeeds. -/
theorem decode_ok_cursor {b : List Byte} {i : Instr} {c : Cursor} (h : decode b = .ok i c) :
    c = .ofPos 109 := by
  rw [decode_eq] at h
  split_ifs at h
  cases h
  rfl

/-- No stage before the payload finds the cursor off its place (R235). -/
theorem decode_raise_ne_misalign {b : List Byte} {x : Failure} {c : Cursor}
    (h : decode b = .raise x c) : x ≠ .misalign := by
  rw [decode_eq] at h
  split_ifs at h <;> cases h <;> decide

namespace Machine

theorem takeCodes_endsAt (b : List Byte) : (takeCodes b (.ofPos 112)).EndsAt 160 :=
  (take_endsAt b 6 112).andThen fun _ => (take_endsAt b 6 118).andThen fun _ =>
  (take_endsAt b 6 124).andThen fun _ => (take_endsAt b 6 130).andThen fun _ =>
  (take_endsAt b 6 136).andThen fun _ => (take_endsAt b 6 142).andThen fun _ =>
  (take_endsAt b 6 148).andThen fun _ => (take_endsAt b 6 154).andThen fun _ => .ok _

theorem category_endsAt (b : List Byte) : (category b (.ofPos 109)).EndsAt 112 :=
  (take_endsAt b 3 109).andThen fun _ => (alignCheck_endsAt rfl).andThen fun _ => .ok _

theorem callsign_endsAt (b : List Byte) : (callsign b (.ofPos 112)).EndsAt 160 :=
  (alignCheck_endsAt rfl).andThen fun _ => (takeCodes_endsAt b).andThen fun _ =>
  (alignCheck_endsAt rfl).andThen fun _ => .ok _

theorem altField_endsAt (b : List Byte) : (altField b (.ofPos 109)).EndsAt 124 :=
  (skip_endsAt b 2 109).andThen fun _ => (skip_endsAt b 1 111).andThen fun _ =>
  take_endsAt b 12 112

theorem payloadIdent_endsAt (b : List Byte) : (payloadIdent b (.ofPos 109)).EndsAt 160 :=
  (category_endsAt b).andThen fun _ => (callsign_endsAt b).andThen fun _ => .ok _

theorem payloadBaro_endsAt (b : List Byte) : (payloadBaro b (.ofPos 109)).EndsAt 124 :=
  (altField_endsAt b).andThen fun _ => .ok _

theorem payloadGnss_endsAt (b : List Byte) : (payloadGnss b (.ofPos 109)).EndsAt 124 :=
  (altField_endsAt b).andThen fun _ => .ok _

/-- The register values that a frame of each class can give (R143 to R148, R175). -/
inductive PayloadOf : FrameClass → PayloadRegs → Prop where
  | ident (codes : Eight (BitVec 6)) : PayloadOf .ident (identRegs (codes.map ch))
  | baro (a : BitVec 12) : PayloadOf .baro (baroRegs a)
  | gnss (a : BitVec 12) : PayloadOf .gnss (gnssRegs a)
  | unknown : PayloadOf .unknown unknownRegs

theorem payloadOf_payloadIdent {b : List Byte} {c d : Cursor} {r : PayloadRegs}
    (h : payloadIdent b c = .ok r d) : PayloadOf .ident r := by
  obtain ⟨_, _, _, h⟩ := Stage.andThen_eq_ok.mp h
  obtain ⟨_, _, text, h⟩ := Stage.andThen_eq_ok.mp h
  obtain ⟨_, _, _, text⟩ := Stage.andThen_eq_ok.mp text
  obtain ⟨codes, _, _, text⟩ := Stage.andThen_eq_ok.mp text
  obtain ⟨_, _, _, text⟩ := Stage.andThen_eq_ok.mp text
  cases text
  cases h
  exact .ident codes

theorem payloadOf_payloadBaro {b : List Byte} {c d : Cursor} {r : PayloadRegs}
    (h : payloadBaro b c = .ok r d) : PayloadOf .baro r := by
  obtain ⟨a, _, _, h⟩ := Stage.andThen_eq_ok.mp h
  cases h
  exact .baro a

theorem payloadOf_payloadGnss {b : List Byte} {c d : Cursor} {r : PayloadRegs}
    (h : payloadGnss b c = .ok r d) : PayloadOf .gnss r := by
  obtain ⟨a, _, _, h⟩ := Stage.andThen_eq_ok.mp h
  cases h
  exact .gnss a

/-- The states a row can end in: its result written, or a failure taken. Run at its place, cursor
(13, 5), a row fails for want of bits only. -/
inductive RowEnds (i : Instr) (s : State) : State → Prop where
  | accepted (r : PayloadRegs) (c : Cursor) (payload : PayloadOf i.cls r)
      (still : i.cls = .unknown → c = s.cur) :
      RowEnds i s (writeOk i.df i.tc i.head.ca i.head.addr r { s with cur := c })
  | rejected (x : Failure) (c : Cursor) (reads : i.cls ≠ .unknown)
      (atPlace : s.cur = .ofPos 109 → x = .exhausted) :
      RowEnds i s (takeFailure x { s with cur := c })

theorem rowEnds_of_runPayload {i : Instr} {s t : State} {p : List Byte → Cursor → Stage PayloadRegs}
    {q : Nat} (reads : i.cls ≠ .unknown)
    (gives : ∀ {b c r d}, p b c = .ok r d → PayloadOf i.cls r)
    (ends : ∀ b, (p b (.ofPos 109)).EndsAt q)
    (h : runPayload p i.df i.tc i.head s = .next t) : RowEnds i s t := by
  obtain ⟨b, _, ⟨r, c, ok, rfl⟩ | ⟨x, c, raised, rfl⟩⟩ := runPayload_next.mp h
  · exact .accepted r c (gives ok) fun hk => absurd hk reads
  · refine .rejected x c reads fun hc => ?_
    have ends := ends b
    rw [← hc, raised] at ends
    exact ends.raise_eq

/-- Everything a row can do when it answers a next state. -/
theorem exec_next {i : Instr} {s t : State} (h : exec i s = .next t) : RowEnds i s t := by
  rw [exec_eq] at h
  cases hk : i.cls with
  | ident =>
    rw [hk] at h
    exact rowEnds_of_runPayload (by simp [hk]) (hk ▸ payloadOf_payloadIdent) payloadIdent_endsAt h
  | baro =>
    rw [hk] at h
    exact rowEnds_of_runPayload (by simp [hk]) (hk ▸ payloadOf_payloadBaro) payloadBaro_endsAt h
  | gnss =>
    rw [hk] at h
    exact rowEnds_of_runPayload (by simp [hk]) (hk ▸ payloadOf_payloadGnss) payloadGnss_endsAt h
  | unknown =>
    rw [hk] at h
    cases h
    exact .accepted unknownRegs s.cur (hk ▸ .unknown) fun _ => rfl

/-- Settles O29: both ends of a row write the cursor and the result registers only, and the failure
entry sets `HALTED` for a misalignment only. -/
theorem rowsWriteOnlyCursorAndResult : Obligations.RowsWriteOnlyCursorAndResult := by
  unfold Obligations.RowsWriteOnlyCursorAndResult
  intro i s t h
  obtain ⟨r, c, _, still⟩ | ⟨x, c, reads, _⟩ := exec_next h
  · exact ⟨fun _ => rfl, rfl, rfl, rfl, rfl, rfl, rfl, rfl, .inl rfl, still⟩
  · refine ⟨fun _ => rfl, rfl, rfl, rfl, rfl, rfl, rfl, rfl, ?_, fun hk => absurd hk reads⟩
    by_cases hx : x = .misalign
    · subst hx
      exact .inr rfl
    · exact .inl (by simp [hx])

end Machine

end Sys2Proof
end

section
/-! SUPPORT. What one DECODE can do to the state, and the frame rules of R33 and R34 after it. -/

namespace Sys2Proof.Machine

/-- The states a DECODE that was not refused can end in: no frame, and no misalignment (R235); or a
frame of an accepted format whose payload is of the class of its type code (R34). -/
inductive DecodeEnds (s : State) : State → Prop where
  | rejected (x : Failure) (c : Cursor) (aligned : x ≠ .misalign) :
      DecodeEnds s (complete (takeFailure x { s with cur := c }))
  | accepted (df tc : BitVec 5) (ca : BitVec 3) (addr : BitVec 24) (r : PayloadRegs) (c : Cursor)
      (format : df = 17 ∨ df = 18) (payload : PayloadOf (classOf tc) r) :
      DecodeEnds s (complete (writeOk df tc ca addr r { s with cur := c }))

/-- A DECODE of a block that is not halted ends with or without a frame. -/
theorem execDecode_ends {s t : State} (running : s.halted = false) (h : execDecode s = .next t) :
    DecodeEnds s t := by
  rcases execDecode_next h with ⟨halted, _⟩ | ⟨_, b, _, ⟨x, c, raised, rfl⟩ | ⟨i, c, m, ok, run, rfl⟩⟩
  · simp [running] at halted
  · exact .rejected x c (decode_raise_ne_misalign raised)
  · cases exec_next run with
    | accepted r d payload _ =>
      exact .accepted i.df i.tc i.head.ca i.head.addr r d i.df_accepted (i.classOf_tc ▸ payload)
    | rejected x d _ atPlace =>
      have short : x = .exhausted := atPlace (decode_ok_cursor ok)
      exact .rejected x d (by simp [short])

/-- Two states that agree outside the cursor, the result registers and the reply. -/
structure KeepsOutsideResult (s t : State) : Prop where
  fb : t.fb = s.fb
  rLen : t.rLen = s.rLen
  rUpd : t.rUpd = s.rUpd
  halted : t.halted = s.halted
  table : t.table = s.table
  pending : t.pending = s.pending
  renders : t.renders = s.renders

theorem DecodeEnds.keeps {s t : State} (h : DecodeEnds s t) : KeepsOutsideResult s t := by
  cases h with
  | rejected x c aligned => exact ⟨rfl, rfl, rfl, if_neg aligned, rfl, rfl, rfl⟩
  | accepted => exact ⟨rfl, rfl, rfl, rfl, rfl, rfl, rfl⟩

theorem failureStatus_ne_ok (x : Failure) : failureStatus x ≠ .ok := by
  cases x <;> decide

theorem failureStatus_ne_errMisalign {x : Failure} (aligned : x ≠ .misalign) :
    failureStatus x ≠ .errMisalign := by
  cases x with
  | misalign => exact absurd rfl aligned
  | _ => decide

theorem DecodeEnds.status_ne_errMisalign {s t : State} (h : DecodeEnds s t) :
    t.rStatus ≠ .errMisalign := by
  cases h with
  | rejected x c aligned => exact failureStatus_ne_errMisalign aligned
  | accepted => simp

/-- R33: a rejected frame shows in no register. -/
theorem DecodeEnds.frameRegsZero {s t : State} (h : DecodeEnds s t) (noFrame : t.rStatus ≠ .ok) :
    FrameRegsZero t := by
  cases h with
  | rejected x c aligned => exact ⟨rfl, rfl, rfl, rfl, rfl, rfl, rfl, rfl⟩
  | accepted => exact absurd rfl noFrame

/-- R165: the character mapping gives bytes of the stated set only. -/
theorem charByte_ch (c : BitVec 6) : charByte (ch c) = true := by
  revert c
  decide

theorem charByte_of_mem_map_ch {codes : Eight (BitVec 6)} {v : Byte}
    (h : v ∈ (codes.map ch).toList) : charByte v = true := by
  simp only [Eight.toList, Eight.map, List.mem_cons, List.not_mem_nil, or_false] at h
  rcases h with rfl | rfl | rfl | rfl | rfl | rfl | rfl | rfl <;> exact charByte_ch _

theorem PayloadOf.kind {k : FrameClass} {r : PayloadRegs} (h : PayloadOf k r) :
    r.kind = classKind k := by
  cases h <;> rfl

theorem PayloadOf.eq_identRegs {k : FrameClass} {r : PayloadRegs} (h : PayloadOf k r)
    (ident : r.kind = .ident) : ∃ codes : Eight (BitVec 6), r = identRegs (codes.map ch) := by
  cases h with
  | ident codes => exact ⟨codes, rfl⟩
  | _ => cases ident

theorem PayloadOf.noText {k : FrameClass} {r : PayloadRegs} (h : PayloadOf k r)
    (other : r.kind ≠ .ident) : r.cs = .fill 0 ∧ r.csLen = 0 := by
  cases h with
  | ident => exact absurd rfl other
  | _ => exact ⟨rfl, rfl⟩

theorem PayloadOf.noAlt {k : FrameClass} {r : PayloadRegs} (h : PayloadOf k r)
    (other : r.kind = .ident ∨ r.kind = .unknown) : r.alt = 0 := by
  cases h with
  | ident => rfl
  | unknown => rfl
  | _ => rcases other with h | h <;> cases h

/-- R34: the registers of a decoded frame obey the frame rules. -/
theorem DecodeEnds.frameRegsOk {s t : State} (h : DecodeEnds s t) (frame : t.rStatus = .ok) :
    FrameRegsOk t := by
  cases h with
  | rejected x c aligned => exact absurd frame (failureStatus_ne_ok x)
  | accepted df tc ca addr r c format payload =>
    refine ⟨format, payload.kind, ?_, ?_, payload.noText, payload.noAlt⟩ <;> intro ident <;>
      obtain ⟨codes, rfl⟩ := payload.eq_identRegs ident
    · exact fun v => charByte_of_mem_map_ch
    · rfl

/-- A DECODE step ends as a DECODE does, with its command taken from the list. -/
theorem step_decode_ends {s t : State} {rest : List Command} (next : s.pending = .decode :: rest)
    (running : s.halted = false) (h : step s = .next t) :
    DecodeEnds { s with pending := rest } t := by
  rw [step_cons next] at h
  exact execDecode_ends running h

/-- Settles O16: a rejected frame shows in no register (R33), and there is no abstract Frame. -/
theorem failedDecodeShowsNoFrame : Obligations.FailedDecodeShowsNoFrame := by
  unfold Obligations.FailedDecodeShowsNoFrame
  intro s t rest next running h noFrame
  obtain ⟨df, ca, addr, tc, kind, cs, csLen, alt⟩ :=
    (step_decode_ends next running h).frameRegsZero noFrame
  exact ⟨df, ca, addr, tc, kind, cs, csLen, alt, if_neg noFrame⟩

/-! ## The callsign text (R30, R165) -/

theorem charByte_iff (v : Byte) : charByte v = true ↔
    v.toNat = 0 ∨ (0x1B ≤ v.toNat ∧ v.toNat ≤ 0x3F) ∨ (0x41 ≤ v.toNat ∧ v.toNat ≤ 0x5A) := by
  simp only [charByte, Bool.or_eq_true, Bool.and_eq_true, decide_eq_true_eq, beq_iff_eq,
    ← BitVec.toNat_inj, BitVec.ofNat_eq_ofNat, BitVec.toNat_ofNat, Nat.zero_mod, or_assoc]

theorem trimLoop_le (cs : List Byte) (n : Nat) : trimLoop cs n ≤ n := by
  induction n with
  | zero => exact Nat.le_refl 0
  | succ n ih =>
    rw [trimLoop]
    split <;> omega

/-- The trimming loop stops at the start or after a byte that is not a space. -/
theorem getD_trimLoop_ne_space {cs : List Byte} {n : Nat} (kept : trimLoop cs n ≠ 0) :
    cs.getD (trimLoop cs n - 1) 0 ≠ 0x20 := by
  induction n with
  | zero => exact absurd rfl kept
  | succ n ih =>
    rw [trimLoop] at kept ⊢
    split at kept
    · next space =>
      rw [if_pos space]
      exact ih kept
    · next other =>
      rw [if_neg other]
      exact other

theorem toNat_ofNat_trimmedLen (cs : Eight Byte) :
    (BitVec.ofNat 4 (trimmedLen cs)).toNat = trimmedLen cs := by
  have bound : trimmedLen cs ≤ 8 := trimLoop_le _ 8
  rw [BitVec.toNat_ofNat]
  omega

/-- The ranges of the dispatch (R141), read off the kind they select. -/
theorem classKind_classOf (tc : BitVec 5) :
    (classKind (classOf tc) = .ident ↔ 1 ≤ tc.toNat ∧ tc.toNat < 5) ∧
    (classKind (classOf tc) = .baro ↔ 9 ≤ tc.toNat ∧ tc.toNat < 19) ∧
    (classKind (classOf tc) = .gnss ↔ 20 ≤ tc.toNat ∧ tc.toNat < 23) := by
  unfold classOf
  split_ifs <;> simp only [classKind, reduceCtorEq, true_iff, false_iff] <;> omega

/-- Settles O18: the frame rules of a decoded frame, with the kind read as a range of the type code
and the trimmed length as R30 states it. -/
theorem decodedFrameSatisfiesFrameRules : Obligations.DecodedFrameSatisfiesFrameRules := by
  unfold Obligations.DecodedFrameSatisfiesFrameRules
  intro s t rest next running h frame
  obtain ⟨df, kind, chars, len, noText, noAlt⟩ :=
    (step_decode_ends next running h).frameRegsOk frame
  obtain ⟨ident, baro, gnss⟩ := classKind_classOf t.rTc
  rw [← kind] at ident baro gnss
  refine ⟨df, ident, baro, gnss, fun isIdent => ?_, noText, fun isUnknown => noAlt (.inr isUnknown)⟩
  have trimmed : t.rCsLen.toNat = trimmedLen t.rCs := by
    rw [len isIdent, toNat_ofNat_trimmedLen]
  refine ⟨fun v hv => (charByte_iff v).mp (chars isIdent v hv), ?_, noAlt (.inl isIdent), ?_⟩
  · rw [trimmed]
    exact trimLoop_le _ 8
  · intro kept
    rw [trimmed]
    refine getD_trimLoop_ne_space fun empty => kept ?_
    rw [len isIdent]
    exact congrArg (BitVec.ofNat 4) empty

end Sys2Proof.Machine
end

section
/-! SUPPORT. What each host command leaves alone (R44), and how a command changes the table (R40,
R42, R64). -/

namespace Sys2Proof.Machine

/-- A DECODE, refused or not, leaves the buffer, the table and everything else outside the result. -/
theorem execDecode_keeps {s t : State} (h : execDecode s = .next t) : KeepsOutsideResult s t := by
  cases running : s.halted with
  | true =>
    rcases execDecode_next h with ⟨_, rfl⟩ | ⟨halted, _⟩
    · exact ⟨rfl, rfl, rfl, rfl, rfl, rfl, rfl⟩
    · simp [running] at halted
  | false => exact (execDecode_ends running h).keeps

/-- An UPDATE, refused or not, writes the table, `R_UPD` and the reply only. -/
theorem execUpdate_frame {s t : State} (h : execUpdate s = .next t) :
    t = { s with reply := t.reply, table := t.table, rUpd := t.rUpd } := by
  rcases execUpdate_next h with ⟨_, rfl⟩ | ⟨_, rfl⟩
  · rfl
  · obtain ⟨tbl, u, e⟩ := updateTable_frame Config.tableCap s
    rw [e]
    rfl

/-- A PROCESS leaves the bytes from its length on, as the LOAD in it does. -/
theorem execProcess_keeps {bytes : List Byte} {s t : State} (h : execProcess bytes s = .next t) :
    t.renders = s.renders ∧ ∀ a, bytes.length ≤ a → t.fb.read a = s.fb.read a := by
  rcases execProcess_next h with ⟨rfl, _⟩ | ⟨_, _, d, decoded, last⟩
  · exact ⟨rfl, fun _ _ => rfl⟩
  · have kept := execDecode_keeps decoded
    have same : t.renders = d.renders ∧ t.fb = d.fb := by
      rcases last with ⟨_, updated⟩ | ⟨_, rfl⟩
      · rw [execUpdate_frame updated]
        exact ⟨rfl, rfl⟩
      · exact ⟨rfl, rfl⟩
    refine ⟨same.1.trans kept.renders, fun a ha => ?_⟩
    rw [same.2, kept.fb, complete_fb, withFrame_fb, Memory.read_writeBytes, if_neg (by omega)]

/-- Settles O50: each command's own lemma says what it leaves alone. -/
theorem commandsWriteOnlyTheirColumn : Obligations.CommandsWriteOnlyTheirColumn := by
  unfold Obligations.CommandsWriteOnlyTheirColumn
  intro s t c rest next h
  rw [step_cons next] at h
  refine ⟨?_, ?_, ?_, ?_, ?_, ?_⟩
  · rintro bytes rfl
    rcases execLoad_next h with ⟨rfl, _⟩ | ⟨_, _, rfl⟩ <;> rfl
  · rintro rfl
    have kept := execDecode_keeps h
    exact ⟨fun a => by rw [kept.fb], kept.fb, kept.rLen, kept.rUpd, kept.table, kept.renders⟩
  · rintro rfl
    exact execUpdate_frame h
  · rintro a rfl
    rcases execLookup_next h with ⟨_, rfl⟩ | ⟨_, rfl⟩ <;> rfl
  · rintro rfl
    rcases execRender_next h with ⟨_, rfl⟩ | ⟨_, rfl⟩ <;> rfl
  · rintro bytes rfl
    have kept := execProcess_keeps h
    exact kept

/-- A change of the table at the address `a` only, which removes no entry and, in the entry of `a`,
keeps the field that a frame of kind `k` does not carry. -/
structure OneFieldChange (a : BitVec 24) (k : Kind) (old new : Table) : Prop where
  least : old.length ≤ new.length
  most : new.length ≤ old.length + 1
  others : ∀ d, d ≠ a → new.get d = old.get d
  stays : (old.get a).isSome → (new.get a).isSome
  altitude : ∀ f, new.get a = some f → k = .ident →
    f.altitude = ((old.get a).getD ⟨[], 0⟩).altitude
  callsign : ∀ f, new.get a = some f → k ≠ .ident →
    f.callsign = ((old.get a).getD ⟨[], 0⟩).callsign

theorem OneFieldChange.refl (a : BitVec 24) (k : Kind) (t : Table) : OneFieldChange a k t t where
  least := Nat.le_refl _
  most := Nat.le_succ _
  others _ _ := rfl
  stays := id
  altitude f hf _ := by simp [hf]
  callsign f hf _ := by simp [hf]

theorem updatedEntry_altitude {s : State} (e : Entry) (ident : s.rKind = .ident) :
    (updatedEntry s e).altitude = e.altitude := by
  simp [updatedEntry, ident]

theorem updatedEntry_callsign {s : State} (e : Entry) (other : s.rKind ≠ .ident) :
    (updatedEntry s e).callsign = e.callsign := by
  unfold updatedEntry
  split <;> simp_all

/-- Setting the updated entry of an address, from its old entry or the default one, is a change of
one field. -/
theorem oneFieldChange_set {s : State} {tbl : Table} {a : BitVec 24} {e : Entry}
    (source : (tbl.get a).getD ⟨[], 0⟩ = e) :
    OneFieldChange a s.rKind tbl (tbl.set a (updatedEntry s e)) := by
  have set_a : (tbl.set a (updatedEntry s e)).get a = some (updatedEntry s e) := by
    rw [Table.get_set, if_pos rfl]
  obtain ⟨least, most⟩ := Table.length_set_bounds tbl a (updatedEntry s e)
  refine ⟨least, most, fun d hd => ?_, fun _ => by simp [set_a], fun f hf ident => ?_,
    fun f hf other => ?_⟩
  · rw [Table.get_set, if_neg hd]
  · cases set_a.symm.trans hf
    rw [updatedEntry_altitude e ident, source]
  · cases set_a.symm.trans hf
    rw [updatedEntry_callsign e other, source]

theorem updateTable_oneFieldChange (cap : Nat) (s : State) :
    OneFieldChange s.rAddr s.rKind s.table (updateTable cap s).table := by
  rcases updateTable_cases cap s with ⟨_, e⟩ | ⟨_, _, _, _, e⟩ | ⟨_, _, f, found, e⟩ <;> rw [e]
  · exact .refl ..
  · exact .refl ..
  · refine oneFieldChange_set ?_
    rcases found with found | ⟨found, _, rfl⟩ <;> rw [found] <;> rfl

theorem execUpdate_oneFieldChange {s t : State} (h : execUpdate s = .next t) :
    OneFieldChange t.rAddr t.rKind s.table t.table := by
  rcases execUpdate_next h with ⟨_, rfl⟩ | ⟨_, rfl⟩
  · exact .refl ..
  · obtain ⟨tbl, u, e⟩ := updateTable_frame Config.tableCap s
    have change := updateTable_oneFieldChange Config.tableCap s
    rw [e] at change ⊢
    exact change

theorem execProcess_oneFieldChange {bytes : List Byte} {s t : State}
    (h : execProcess bytes s = .next t) : OneFieldChange t.rAddr t.rKind s.table t.table := by
  rcases execProcess_next h with ⟨rfl, _⟩ | ⟨_, _, d, decoded, last⟩
  · exact .refl ..
  · have same : d.table = s.table := (execDecode_keeps decoded).table
    rw [← same]
    rcases last with ⟨_, updated⟩ | ⟨_, rfl⟩
    · exact execUpdate_oneFieldChange updated
    · exact .refl ..

/-- R42: only UPDATE, PROCESS and RESET write the table. -/
theorem runCommand_table {c : Command} {s t : State} (h : runCommand c s = .next t)
    (notReset : c ≠ .reset) (notUpdate : c ≠ .update) (notProcess : ∀ bytes, c ≠ .process bytes) :
    t.table = s.table := by
  cases c with
  | load bytes => rcases execLoad_next h with ⟨rfl, _⟩ | ⟨_, _, rfl⟩ <;> rfl
  | decode => exact (execDecode_keeps h).table
  | update => exact absurd rfl notUpdate
  | lookup a => rcases execLookup_next h with ⟨_, rfl⟩ | ⟨_, rfl⟩ <;> rfl
  | render => rcases execRender_next h with ⟨_, rfl⟩ | ⟨_, rfl⟩ <;> rfl
  | process bytes => exact absurd rfl (notProcess bytes)
  | reset => exact absurd rfl notReset

/-- R40, R64: no command but RESET changes more of the table than one field of the entry of
`R_ADDR`. -/
theorem runCommand_oneFieldChange {c : Command} {s t : State} (h : runCommand c s = .next t)
    (notReset : c ≠ .reset) : OneFieldChange t.rAddr t.rKind s.table t.table := by
  by_cases notUpdate : c = .update
  · subst notUpdate
    exact execUpdate_oneFieldChange h
  · by_cases notProcess : ∃ bytes, c = .process bytes
    · obtain ⟨bytes, rfl⟩ := notProcess
      exact execProcess_oneFieldChange h
    · rw [runCommand_table h notReset notUpdate (not_exists.mp notProcess)]
      exact .refl ..

/-- Settles O39: the change of one field, and the commands that leave the table. -/
theorem tableOnlyGrowsOneFieldAtATime : Obligations.TableOnlyGrowsOneFieldAtATime := by
  unfold Obligations.TableOnlyGrowsOneFieldAtATime
  intro s t c rest next notReset h
  rw [step_cons next] at h
  have change := runCommand_oneFieldChange h notReset
  have unchanged := runCommand_table h notReset
  exact ⟨change.least, change.most, unchanged, change.others, change.stays,
    fun f hf => ⟨change.altitude f hf, change.callsign f hf⟩⟩

end Sys2Proof.Machine
end

section
/-! SUPPORT. The invariant: what it asks of the buffer, of the table and of the registers, and that
every command keeps it. -/

namespace Sys2Proof.Machine

/-- A state that differs from one of the invariant outside the result registers has the invariant
when its buffer and its table do. -/
theorem Inv.of_sameRegs {s t : State} (h : Inv s) (buffer : BufferOk t) (table : TableOk t.table)
    (same : t = { s with
      fb := t.fb, rLen := t.rLen, rUpd := t.rUpd, table := t.table, pending := t.pending
      reply := t.reply, renders := t.renders }) : Inv t := by
  obtain ⟨_, _, notHalted, notMisalign, noFrame, frame⟩ := h
  obtain ⟨wf, addrs, len, written⟩ := buffer
  rw [same]
  refine ⟨⟨wf, addrs, len, written⟩, table, notHalted, notMisalign, noFrame, fun ok => ?_⟩
  obtain ⟨df, kind, chars, csLen, noText, noAlt⟩ := frame ok
  exact ⟨df, kind, chars, csLen, noText, noAlt⟩

theorem BufferOk.of_eq {s t : State} (h : BufferOk s) (fb : t.fb = s.fb) (rLen : t.rLen = s.rLen) :
    BufferOk t := by
  obtain ⟨wf, addrs, len, written⟩ := h
  rw [← fb] at wf addrs written
  rw [← rLen] at len written
  exact ⟨wf, addrs, len, written⟩

/-- The host's side of the interface is no part of the invariant. -/
theorem Inv.hostSide {s : State} (h : Inv s) (p : List Command) (r : Reply) (n : Nat) :
    Inv { s with pending := p, reply := r, renders := n } :=
  h.of_sameRegs (h.buffer.of_eq rfl rfl) h.table rfl

theorem Inv.refuse {s : State} (h : Inv s) : Inv (refuse s) :=
  h.hostSide s.pending .refused s.renders

theorem Inv.complete {s : State} (h : Inv s) : Inv (complete s) :=
  h.hostSide s.pending .done s.renders

/-- Settles O51: the buffer and the table are empty, and the registers hold no frame. -/
theorem resetStateIsSound : Obligations.ResetStateIsSound where
  buffer := ⟨rfl, by simp [State.reset], Nat.zero_le _, by simp [State.reset]⟩
  table := ⟨rfl, Nat.zero_le _, by simp [State.reset]⟩
  notHalted := rfl
  notMisalign := by decide
  noFrame _ := ⟨rfl, rfl, rfl, rfl, rfl, rfl, rfl, rfl⟩
  frame ok := by cases ok

/-- A frame that fits keeps the buffer inside `BUF_CAP`, and every byte of it is written. -/
theorem BufferOk.withFrame {s : State} (h : BufferOk s) {bytes : List Byte}
    (fits : bytes.length ≤ Config.bufCap) : BufferOk (s.withFrame bytes) where
  wf := Memory.writeBytes_wf 0 bytes h.wf
  addrs p hp := by
    rcases Memory.mem_writeBytes hp with old | ⟨_, new⟩
    · exact h.addrs p old
    · omega
  len := fits
  written a ha := by
    rw [withFrame_rLen] at ha
    exact ⟨bytes[a], by simp [Memory.read_writeBytes, ha]⟩

theorem execLoad_inv {bytes : List Byte} {s t : State} (inv : Inv s)
    (h : execLoad bytes s = .next t) : Inv t := by
  rcases execLoad_next h with ⟨rfl, _⟩ | ⟨_, fits, rfl⟩
  · exact inv.refuse
  · exact (inv.of_sameRegs (inv.buffer.withFrame fits) inv.table rfl).complete

theorem execDecode_inv {s t : State} (inv : Inv s) (h : execDecode s = .next t) : Inv t := by
  have ends := execDecode_ends inv.notHalted h
  have kept := ends.keeps
  refine ⟨inv.buffer.of_eq kept.fb kept.rLen, ?_, ?_, ends.status_ne_errMisalign,
    ends.frameRegsZero, ends.frameRegsOk⟩
  · rw [kept.table]
    exact inv.table
  · rw [kept.halted]
    exact inv.notHalted

/-- The callsign text of a decoded identification is one that R39 allows. -/
theorem FrameRegsOk.textOk_callsignText {s : State} (h : FrameRegsOk s) (ident : s.rKind = .ident) :
    textOk s.callsignText = true := by
  have text : s.callsignText = s.rCs.toList.take (trimmedLen s.rCs) := by
    rw [State.callsignText, h.len ident, toNat_ofNat_trimmedLen]
  have bound : trimmedLen s.rCs ≤ 8 := trimLoop_le _ 8
  have chars : (s.rCs.toList.take (trimmedLen s.rCs)).all charByte = true :=
    List.all_eq_true.mpr fun v hv => h.chars ident v (List.mem_of_mem_take hv)
  have last : (s.rCs.toList.take (trimmedLen s.rCs)).getLast? ≠ some 0x20 := by
    by_cases empty : trimmedLen s.rCs = 0
    · simp [empty]
    · have other := getD_trimLoop_ne_space empty
      have inside : trimmedLen s.rCs - 1 < s.rCs.toList.length := by
        simp only [Eight.toList, List.length_cons, List.length_nil]
        omega
      rw [List.getLast?_take, if_neg empty, List.getElem?_eq_getElem inside]
      rw [← trimmedLen, List.getD_eq_getElem _ _ inside] at other
      simpa using other
  simp only [text, textOk, chars, last, bne_iff_ne, List.length_take, Bool.and_eq_true,
    decide_eq_true_eq, ne_eq, not_false_eq_true, and_true]
  omega

theorem FrameRegsOk.textOk_updatedEntry {s : State} (h : FrameRegsOk s) {e : Entry}
    (old : textOk e.callsign = true) : textOk (updatedEntry s e).callsign = true := by
  by_cases ident : s.rKind = .ident
  · simp [updatedEntry, ident, h.textOk_callsignText ident]
  · rw [updatedEntry_callsign e ident]
    exact old

/-- UPDATE keeps the table canonical and inside its capacity, its callsigns of the stated form. -/
theorem updateTable_tableOk {s : State} (table : TableOk s.table)
    (frame : s.rStatus = .ok → FrameRegsOk s) :
    TableOk (updateTable Config.tableCap s).table := by
  rcases updateTable_cases Config.tableCap s with ⟨_, e⟩ | ⟨_, _, _, _, e⟩ | ⟨ok, _, f, found, e⟩ <;>
    rw [e]
  · exact table
  · exact table
  · have old : textOk f.callsign = true := by
      rcases found with found | ⟨_, _, rfl⟩
      · exact table.texts _ (Table.mem_of_get found)
      · rfl
    refine ⟨Table.set_wf _ _ table.wf, ?_, fun p hp => ?_⟩
    · have count := table.count
      rw [Table.length_set _ _ table.wf]
      rcases found with found | ⟨found, room, _⟩
      · simpa [found] using count
      · simp only [found, Option.isSome_none, Bool.false_eq_true, if_false]
        omega
    · rcases Table.mem_set hp with rfl | hp
      · exact (frame ok).textOk_updatedEntry old
      · exact table.texts p hp

theorem execUpdate_inv {s t : State} (inv : Inv s) (h : execUpdate s = .next t) : Inv t := by
  rcases execUpdate_next h with ⟨_, rfl⟩ | ⟨_, rfl⟩
  · exact inv.refuse
  · have table := updateTable_tableOk inv.table inv.frame
    obtain ⟨tbl, u, e⟩ := updateTable_frame Config.tableCap s
    rw [e] at table ⊢
    have updated : Inv { s with table := tbl, rUpd := u } :=
      inv.of_sameRegs (inv.buffer.of_eq rfl rfl) table rfl
    exact updated.complete

theorem execProcess_inv {bytes : List Byte} {s t : State} (inv : Inv s)
    (h : execProcess bytes s = .next t) : Inv t := by
  rcases execProcess_next h with ⟨rfl, _⟩ | ⟨_, fits, d, decoded, last⟩
  · exact inv.refuse
  · have loaded : Inv (complete (s.withFrame bytes)) :=
      (inv.of_sameRegs (inv.buffer.withFrame fits) inv.table rfl).complete
    have afterDecode : Inv d := execDecode_inv loaded decoded
    rcases last with ⟨_, updated⟩ | ⟨_, rfl⟩
    · exact execUpdate_inv afterDecode updated
    · exact afterDecode

/-- Every command keeps the invariant. -/
theorem runCommand_inv {c : Command} {s t : State} (inv : Inv s) (h : runCommand c s = .next t) :
    Inv t := by
  cases c with
  | load bytes => exact execLoad_inv inv h
  | decode => exact execDecode_inv inv h
  | update => exact execUpdate_inv inv h
  | lookup a =>
    rcases execLookup_next h with ⟨_, rfl⟩ | ⟨_, rfl⟩
    · exact inv.refuse
    · exact inv.hostSide ..
  | render =>
    rcases execRender_next h with ⟨_, rfl⟩ | ⟨_, rfl⟩
    · exact inv.refuse
    · exact inv.hostSide ..
  | process bytes => exact execProcess_inv inv h
  | reset =>
    cases h
    exact Inv.hostSide resetStateIsSound ..

/-- Settles O52: a step is idle or runs one command. -/
theorem everyStepKeepsTheInvariant : Obligations.EveryStepKeepsTheInvariant := by
  unfold Obligations.EveryStepKeepsTheInvariant
  intro s t inv h
  cases next : s.pending with
  | nil =>
    rw [step_nil next] at h
    cases h
    exact inv
  | cons c rest =>
    rw [step_cons next] at h
    exact runCommand_inv (inv.hostSide rest s.reply s.renders) h

end Sys2Proof.Machine
end

section
/-! SUPPORT. A field read in two parts (R56), and a field inside one byte as arithmetic on that byte
(R11, R12); from them, what every stage of the decode reads in terms of the frame's bytes. -/

namespace Sys2Proof

/-! ## Adjacent fields -/

/-- A field is its upper part, shifted past its lower part, plus its lower part. -/
theorem fbits_add (b : List Byte) (n x y : Nat) :
    fbits b n (x + y) = fbits b n x * 2 ^ y + fbits b (n + x) y := by
  induction x generalizing n with
  | zero => simp [fbits]
  | succ x ih =>
    have rest := ih (n + 1)
    rw [Nat.add_right_comm n 1 x] at rest
    rw [Nat.add_right_comm x 1 y, fbits, fbits, rest, pow_add, ← Nat.add_assoc n x 1]
    ring

/-- All that a take that succeeds gives: its bits are present, and value and cursor follow. -/
theorem take_eq_ok {b : List Byte} {w : Nat} {c d : Cursor} {hw : 0 < w ∧ w ≤ 32}
    {v : BitVec w} :
    take b w c hw = .ok v d ↔
      c.pos + w ≤ 8 * b.length ∧ v = field b c.pos w ∧ d = .ofPos (c.pos + w) := by
  unfold take
  split
  · simp only [reduceCtorEq, false_iff]
    omega
  · simp only [Stage.ok.injEq, eq_comm (a := v), eq_comm (a := d), iff_and_self]
    omega

/-- All that a skip that succeeds gives: its bits are present, and the cursor follows. -/
theorem skip_eq_ok {b : List Byte} {w : Nat} {c d : Cursor} {hw : 0 < w ∧ w ≤ 64} :
    skip b w c hw = .ok () d ↔ c.pos + w ≤ 8 * b.length ∧ d = .ofPos (c.pos + w) := by
  unfold skip
  split
  · simp only [reduceCtorEq, false_iff]
    omega
  · simp only [Stage.ok.injEq, true_and, eq_comm (a := d), iff_and_self]
    omega

/-- A take of `x + y` bits is a take of `x` bits and then one of `y` bits. -/
theorem take_add {b : List Byte} {x y : Nat} {c d : Cursor} {hw : 0 < x + y ∧ x + y ≤ 32}
    {v : BitVec (x + y)} (hx : 0 < x ∧ x ≤ 32) (hy : 0 < y ∧ y ≤ 32)
    (h : take b (x + y) c hw = .ok v d) :
    ∃ v₁ v₂ m, take b x c hx = .ok v₁ m ∧ take b y m hy = .ok v₂ d ∧
      v.toNat = v₁.toNat * 2 ^ y + v₂.toNat := by
  obtain ⟨present, rfl, rfl⟩ := take_eq_ok.mp h
  refine ⟨field b c.pos x, field b (c.pos + x) y, .ofPos (c.pos + x),
    take_eq_ok.mpr ⟨by omega, rfl, rfl⟩, ?_, ?_⟩
  · rw [take_ofPos (by omega), Nat.add_assoc]
  · simp only [field_toNat, fbits_add]

/-- A skip of `x + y` bits is a skip of `x` bits and then one of `y` bits. -/
theorem skip_add {b : List Byte} {x y : Nat} {c d : Cursor} {hw : 0 < x + y ∧ x + y ≤ 64}
    (hx : 0 < x ∧ x ≤ 64) (hy : 0 < y ∧ y ≤ 64) (h : skip b (x + y) c hw = .ok () d) :
    ∃ m, skip b x c hx = .ok () m ∧ skip b y m hy = .ok () d := by
  obtain ⟨present, rfl⟩ := skip_eq_ok.mp h
  refine ⟨.ofPos (c.pos + x), skip_eq_ok.mpr ⟨by omega, rfl⟩, ?_⟩
  rw [skip_ofPos (by omega), Nat.add_assoc]

/-- Settles O2: the splits of a field, a take and a skip at the widths named. -/
theorem adjacentFieldsAgreeWithOneField : Obligations.AdjacentFieldsAgreeWithOneField := by
  unfold Obligations.AdjacentFieldsAgreeWithOneField
  refine ⟨fbits_add, fun b c v d h => ⟨?_, ?_⟩, fun b c d h => ?_⟩
  · exact take_add (x := 8) (y := 4) (by decide) (by decide) h
  · exact take_add (x := 4) (y := 8) (by decide) (by decide) h
  · exact skip_add (x := 2) (y := 1) (by decide) (by decide) h

namespace Machine

/-! ## Fields and bytes -/

/-- Bit `o` of byte `k`, counted from the most significant one (R11). -/
theorem frameBit_toNat (b : List Byte) (k : Nat) {o : Nat} (ho : o < 8) :
    (frameBit b (8 * k + o)).toNat = byteAt b k / 2 ^ (7 - o) % 2 := by
  have byte : (8 * k + o) / 8 = k := by omega
  have bit : (8 * k + o) % 8 = o := by omega
  rw [frameBit, byte, bit, byteAt, ← BitVec.testBit_toNat, Nat.toNat_testBit]

/-- A field of `w` bits inside byte `k`: drop the bits below it, keep `w`. -/
theorem fbits_in_byte (b : List Byte) (k : Nat) {o w : Nat} (h : o + w ≤ 8) :
    fbits b (8 * k + o) w = byteAt b k / 2 ^ (8 - o - w) % 2 ^ w := by
  induction w generalizing o with
  | zero => simp [fbits, Nat.mod_one]
  | succ w ih =>
    have below : 8 - (o + 1) - w = 8 - o - (w + 1) := by omega
    have top : 7 - o = 8 - o - (w + 1) + w := by omega
    rw [fbits, frameBit_toNat b k (by omega), Nat.add_assoc, ih (by omega), below, Nat.mod_pow_succ,
      Nat.div_div_eq_div_mul, ← pow_add, ← top]
    ring

/-- The first `w` bits of byte `k`. -/
theorem fbits_byte_high (b : List Byte) (k : Nat) {w : Nat} (h : w ≤ 8) :
    fbits b (8 * k) w = byteAt b k / 2 ^ (8 - w) := by
  have high := fbits_in_byte b k (o := 0) (w := w) (by omega)
  have bound : byteAt b k / 2 ^ (8 - w) < 2 ^ w := by
    rw [Nat.div_lt_iff_lt_mul (by positivity), ← pow_add, Nat.add_sub_cancel' h]
    exact (b.getD k 0).isLt
  simpa [Nat.mod_eq_of_lt bound] using high

/-- A field of eight bits on a byte boundary is the byte. -/
theorem fbits_byte (b : List Byte) (k : Nat) : fbits b (8 * k) 8 = byteAt b k := by
  simpa using fbits_byte_high b k (w := 8) (by decide)

/-- The bits of byte `k` from offset `o` on. -/
theorem fbits_byte_low (b : List Byte) (k : Nat) {o w : Nat} (h : o + w = 8) :
    fbits b (8 * k + o) w = byteAt b k % 2 ^ w := by
  have atEnd : 8 - o - w = 0 := by omega
  rw [fbits_in_byte b k h.le, atEnd, pow_zero, Nat.div_one]

/-- R84: the address is three whole bytes, the first most significant. -/
theorem field_address (b : List Byte) : field b 80 24 = addressOf b := by
  have bytes : fbits b 80 24 = byteAt b 10 * 65536 + byteAt b 11 * 256 + byteAt b 12 := by
    rw [fbits_add b 80 8 16, fbits_add b 88 8 8, fbits_byte b 10, fbits_byte b 11, fbits_byte b 12]
    ring
  rw [field, bytes, addressOf]

/-- R87: the altitude is byte 14 and the upper half of byte 15. -/
theorem field_altitude (b : List Byte) : field b 112 12 = rawAltitude b := by
  have bytes : fbits b 112 12 = byteAt b 14 * 16 + byteAt b 15 / 16 := by
    rw [fbits_add b 112 8 4, fbits_byte b 14, fbits_byte_high b 15 (by decide)]
    rfl
  rw [field, bytes, rawAltitude]

/-- R162: the mapping of a code depends on its number as the rule states it. -/
theorem ch_eq_charOfCode (c : BitVec 6) : ch c = charOfCode c.toNat := by
  revert c
  decide

theorem map_ch_codesOf (b : List Byte) : (codesOf b).map ch = charsOf b := by
  simp only [Eight.map, codesOf, charsOf, ch_eq_charOfCode, field_toNat]

/-- R124: a long enough buffer that begins with the two markers passes HDR. -/
theorem hdr_ok {b : List Byte} (len : 16 ≤ b.length) (m0 : byteAt b 0 = 0x1A)
    (m1 : byteAt b 1 = 0x33) : hdr b (.ofPos 0) = .ok () (.ofPos 72) := by
  have first : field b 0 8 = 0x1A := by rw [field, fbits_byte b 0, m0]; rfl
  have second : field b 8 8 = 0x33 := by rw [field, fbits_byte b 1, m1]; rfl
  rw [hdr_eq, if_neg (Nat.not_lt.mpr len), if_neg (by simp [first, second])]

/-- Settles O4: the law of each stage, with its field read off the bytes; the positions 0, 72, 80,
104, 109, 112, 124 and 160 are the tabled cursors. -/
theorem stagesReadTheirFieldsAndLandWhereTabled :
    Obligations.StagesReadTheirFieldsAndLandWhereTabled := by
  unfold Obligations.StagesReadTheirFieldsAndLandWhereTabled
  intro b len m0 m1
  have len16 : 16 ≤ b.length := by omega
  have df : fbits b 72 5 = byteAt b 9 / 8 := fbits_byte_high b 9 (by decide)
  have ca : fbits b 77 3 = byteAt b 9 % 8 := fbits_byte_low b 9 (o := 5) rfl
  have tc : fbits b 104 5 = byteAt b 13 / 8 := fbits_byte_high b 13 (by decide)
  have cat : fbits b 109 3 = byteAt b 13 % 8 := fbits_byte_low b 13 (o := 5) rfl
  rw [← df, ← ca, ← tc, ← cat, ← field_address, ← field_altitude, ← map_ch_codesOf]
  exact ⟨hdr_ok len16 m0 m1, dfca_eq len16, icao_eq len16, typecode_eq len16,
    category_ok (by omega), altField_ok len16, callsign_ok len⟩

end Machine

end Sys2Proof
end

section
/-! SUPPORT. A field of the frame as a bit vector: its bits, its parts, the byte it lies in, and how
a word put together from parts is taken apart again. -/

namespace Sys2Proof

/-- A field is its first frame bit before the field of the rest (R12). -/
theorem field_succ (b : List Byte) (n w : Nat) :
    field b n (w + 1) = BitVec.cons (frameBit b n) (field b (n + 1) w) := by
  apply BitVec.eq_of_toNat_eq
  simp only [field_toNat, fbits, BitVec.toNat_cons', Nat.shiftLeft_eq]

/-- Bit `i` of a field is the frame bit `i` places before its last one (R12). -/
theorem getLsbD_field (b : List Byte) (n w i : Nat) :
    (field b n w).getLsbD i = (decide (i < w) && frameBit b (n + (w - 1 - i))) := by
  induction w generalizing n with
  | zero => simp
  | succ w ih =>
    rw [field_succ, BitVec.getLsbD_cons, ih]
    by_cases top : i = w
    · simp [top]
    · have place : n + 1 + (w - 1 - i) = n + (w + 1 - 1 - i) ∨ w ≤ i := by omega
      grind

/-- Two buffers with the same frame bits in a field have the same field. -/
theorem field_congr {b d : List Byte} {n w : Nat}
    (same : ∀ m, n ≤ m → m < n + w → frameBit b m = frameBit d m) : field b n w = field d n w := by
  apply BitVec.eq_of_getLsbD_eq
  intro i hi
  rw [getLsbD_field, getLsbD_field, same _ (by omega) (by omega)]

/-- Adjacent fields side by side are one field (R56). -/
theorem field_append (b : List Byte) (n x y : Nat) :
    field b n x ++ field b (n + x) y = field b n (x + y) := by
  apply BitVec.eq_of_toNat_eq
  rw [BitVec.toNat_append, field_toNat, field_toNat, field_toNat, fbits_add,
    ← Nat.shiftLeft_add_eq_or_of_lt (fbits_lt b (n + x) y), Nat.shiftLeft_eq]

/-- The `len` bits of a field above its lowest `lo` are a field themselves. -/
theorem field_extractLsb' (b : List Byte) (n : Nat) {w lo len : Nat} (h : lo + len ≤ w) :
    (field b n w).extractLsb' lo len = field b (n + (w - lo - len)) len := by
  apply BitVec.eq_of_getLsbD_eq
  intro i hi
  have inside : lo + i < w := by omega
  have place : n + (w - 1 - (lo + i)) = n + (w - lo - len) + (len - 1 - i) := by omega
  rw [BitVec.getLsbD_extractLsb', getLsbD_field, getLsbD_field, place]
  simp [hi, inside]

/-- Eight bits on a byte boundary are the byte (R11). -/
theorem field_byte (b : List Byte) (k : Nat) : field b (8 * k) 8 = b.getD k 0 :=
  BitVec.eq_of_toNat_eq ((field_toNat b (8 * k) 8).trans (Machine.fbits_byte b k))

/-- A run of a buffer, byte by byte. -/
theorem take_drop_eq_map_field {b : List Byte} {k n : Nat} (h : k + n ≤ b.length) :
    (b.drop k).take n = (List.range n).map fun i => field b (8 * (k + i)) 8 := by
  apply List.ext_getElem
  · simp only [List.length_take, List.length_drop, List.length_map, List.length_range]
    omega
  · intro i hi _
    have inside : k + i < b.length := by
      rw [List.length_take, List.length_drop] at hi
      omega
    simp [field_byte, inside]

/-- Two words put together from parts of the same widths are equal part by part. -/
theorem append_eq_append_iff {m n : Nat} {x x' : BitVec m} {y y' : BitVec n} :
    x ++ y = x' ++ y' ↔ x = x' ∧ y = y' := by
  refine ⟨fun h => ⟨?_, ?_⟩, fun ⟨hx, hy⟩ => by rw [hx, hy]⟩
  · simpa only [BitVec.extractLsb'_append_eq_left] using congrArg (BitVec.extractLsb' n m) h
  · simpa only [BitVec.extractLsb'_append_eq_right] using congrArg (BitVec.extractLsb' 0 n) h

/-- Two words that agree on adjacent parts agree on the part they make up. -/
theorem extractLsb'_congr_append {w lo m n : Nat} {x y : BitVec w}
    (lower : x.extractLsb' lo m = y.extractLsb' lo m)
    (upper : x.extractLsb' (lo + m) n = y.extractLsb' (lo + m) n) :
    x.extractLsb' lo (n + m) = y.extractLsb' lo (n + m) := by
  rw [← BitVec.extractLsb'_append_extractLsb'_eq_extractLsb' rfl, upper, lower,
    BitVec.extractLsb'_append_extractLsb'_eq_extractLsb' rfl]

/-- Two words with the same lower and the same upper part are equal. -/
theorem eq_of_parts {m n : Nat} {x y : BitVec (n + m)}
    (lower : x.extractLsb' 0 m = y.extractLsb' 0 m)
    (upper : x.extractLsb' m n = y.extractLsb' m n) : x = y := by
  rw [← BitVec.extractLsb'_append_extractLsb' (x := x), upper, lower,
    BitVec.extractLsb'_append_extractLsb']

end Sys2Proof
end

section
/-! SUPPORT. The encoder against the fields: the prefix built from a buffer's fields is the buffer's
first 14 bytes, and a prefix determines its operands; from both, that decode and encode are inverse
to each other and which buffers select a row (R81, R97). -/

namespace Sys2Proof

/-- The free fields of the common prefix, read off a buffer (R81). -/
def headOf (b : List Byte) : Head := ⟨field b 16 48, field b 64 8, field b 77 3, field b 80 24⟩

/-- The common prefix put together from a buffer's own fields is its first 14 bytes. -/
theorem encodePrefix_fields {b : List Byte} (len : 14 ≤ b.length) (m0 : field b 0 8 = 0x1A)
    (m1 : field b 8 8 = 0x33) :
    encodePrefix (field b 72 5) (field b 104 5) (headOf b) (field b 109 3) = b.take 14 := by
  have bytes : b.take 14 = (List.range 14).map fun k => field b (8 * (0 + k)) 8 :=
    take_drop_eq_map_field (k := 0) (by omega)
  have format : field b 72 5 ++ field b 77 3 = field b 72 8 := field_append b 72 5 3
  have code : field b 104 5 ++ field b 109 3 = field b 104 8 := field_append b 104 5 3
  rw [bytes]
  simp [encodePrefix, headOf, field_extractLsb', List.range_succ, m0, m1, format, code,
    Config.sync0, Config.sync1]

/-- A prefix determines the fields it was put together from. -/
theorem encodePrefix_injective {df df' tc tc' : BitVec 5} {h h' : Head} {low3 low3' : BitVec 3}
    (same : encodePrefix df tc h low3 = encodePrefix df' tc' h' low3') :
    df = df' ∧ tc = tc' ∧ h = h' ∧ low3 = low3' := by
  obtain ⟨ts, sig, ca, addr⟩ := h
  obtain ⟨ts', sig', ca', addr'⟩ := h'
  simp only [encodePrefix, List.cons.injEq, true_and, and_true] at same
  obtain ⟨t5, t4, t3, t2, t1, t0, hsig, format, a2, a1, a0, code⟩ := same
  obtain ⟨hdf, hca⟩ := append_eq_append_iff.mp format
  obtain ⟨htc, hlow3⟩ := append_eq_append_iff.mp code
  have hts : ts = ts' := eq_of_parts (m := 40) (extractLsb'_congr_append (m := 32)
    (extractLsb'_congr_append (m := 24) (extractLsb'_congr_append (m := 16)
    (extractLsb'_congr_append t0 t1) t2) t3) t4) t5
  have haddr : addr = addr' := eq_of_parts (m := 16) (extractLsb'_congr_append a0 a1) a2
  exact ⟨hdf, htc, by rw [hts, hsig, hca, haddr], hlow3⟩

theorem encodePrefix_length (df tc : BitVec 5) (h : Head) (low3 : BitVec 3) :
    (encodePrefix df tc h low3).length = 14 := rfl

/-- The first two bytes of a prefix are the markers, whatever follows it. -/
theorem markers_encodePrefix (df tc : BitVec 5) (h : Head) (low3 : BitVec 3) (tail : List Byte) :
    field (encodePrefix df tc h low3 ++ tail) 0 8 = 0x1A ∧
    field (encodePrefix df tc h low3 ++ tail) 8 8 = 0x33 :=
  ⟨field_byte _ 0, field_byte _ 1⟩

/-- The fields of a buffer that begins with a prefix are those of the prefix. -/
theorem fields_encodePrefix (df tc : BitVec 5) (h : Head) (low3 : BitVec 3) (tail : List Byte) :
    field (encodePrefix df tc h low3 ++ tail) 72 5 = df ∧
    field (encodePrefix df tc h low3 ++ tail) 104 5 = tc ∧
    headOf (encodePrefix df tc h low3 ++ tail) = h ∧
    field (encodePrefix df tc h low3 ++ tail) 109 3 = low3 := by
  obtain ⟨m0, m1⟩ := markers_encodePrefix df tc h low3 tail
  apply encodePrefix_injective
  rw [encodePrefix_fields (by simp [encodePrefix_length]) m0 m1]
  exact List.take_left' (encodePrefix_length df tc h low3)

/-- All that a decode that succeeds gives: the tests of the prefix pass, and the row follows. -/
theorem decode_eq_ok {b : List Byte} {i : Instr} {c : Cursor} :
    decode b = .ok i c ↔ 16 ≤ b.length ∧ field b 0 8 = 0x1A ∧ field b 8 8 = 0x33 ∧
      (field b 72 5 = 17 ∨ field b 72 5 = 18) ∧ i = rowOfFields b ∧ c = ⟨13, 5⟩ := by
  rw [decode_eq]
  constructor
  · intro h
    split_ifs at h with short marker format
    cases h
    rw [not_or, not_not, not_not] at marker
    rw [not_and_or, not_not, not_not] at format
    exact ⟨Nat.le_of_not_lt short, marker.1, marker.2, format, rfl, rfl⟩
  · rintro ⟨len, m0, m1, format, rfl, rfl⟩
    rw [if_neg (Nat.not_lt.mpr len), if_neg (by simp [m0, m1]),
      if_neg (by rwa [not_and_or, not_not, not_not])]
    rfl

theorem rowOfFields_parts {b : List Byte} (format : field b 72 5 = 17 ∨ field b 72 5 = 18) :
    (rowOfFields b).parts = ⟨classOf (field b 104 5), field b 72 5, field b 104 5, headOf b,
      field b 109 3⟩ :=
  selectRow_parts _ _ _ format

/-- A row is the one selected for its own format, type code and operands (R97). -/
theorem selectRow_self (i : Instr) : selectRow i.df i.tc i.head i.low3 = i := by
  cases i <;> rfl

/-- Settles O6: the buffer's fields are those of the instruction, which select its row. -/
theorem decodeOfEncodeIsTheInstruction : Obligations.DecodeOfEncodeIsTheInstruction := by
  unfold Obligations.DecodeOfEncodeIsTheInstruction
  intro i tail len
  obtain ⟨m0, m1⟩ := markers_encodePrefix i.df i.tc i.head i.low3 tail
  obtain ⟨df, tc, head, low3⟩ := fields_encodePrefix i.df i.tc i.head i.low3 tail
  refine decode_eq_ok.mpr ⟨?_, m0, m1, ?_, ?_, rfl⟩
  · rw [List.length_append, encode, encodePrefix_length]
    omega
  · rw [encode, df]
    exact i.df_accepted
  · rw [encode, rowOfFields, ← headOf, df, tc, head, low3, selectRow_self]

/-- Settles O7: the row of the buffer's fields encodes to the prefix put together from them. -/
theorem encodeOfDecodeIsTheBytes : Obligations.EncodeOfDecodeIsTheBytes := by
  unfold Obligations.EncodeOfDecodeIsTheBytes
  intro b i c h
  obtain ⟨len, m0, m1, format, rfl, rfl⟩ := decode_eq_ok.mp h
  refine ⟨?_, Instr.wf_eq_true _, rfl, len⟩
  rw [← encodePrefix_fields (by omega) m0 m1]
  simp only [encode, Instr.df, Instr.tc, Instr.head, Instr.low3, rowOfFields_parts format]

/-- A buffer of at least 16 bytes decodes to a row exactly when it begins with the markers and has
the row's format and type code. -/
theorem decode_selects_iff {b : List Byte} (len : 16 ≤ b.length) (i : Instr) :
    (∃ j c, decode b = .ok j c ∧ j.df = i.df ∧ j.tc = i.tc) ↔
      field b 0 8 = 0x1A ∧ field b 8 8 = 0x33 ∧ field b 72 5 = i.df ∧ field b 104 5 = i.tc := by
  constructor
  · rintro ⟨j, c, h, df, tc⟩
    obtain ⟨-, m0, m1, format, rfl, -⟩ := decode_eq_ok.mp h
    rw [Instr.df, rowOfFields_parts format] at df
    rw [Instr.tc, rowOfFields_parts format] at tc
    exact ⟨m0, m1, df, tc⟩
  · rintro ⟨m0, m1, df, tc⟩
    have format : field b 72 5 = 17 ∨ field b 72 5 = 18 := df ▸ i.df_accepted
    refine ⟨_, _, decode_eq_ok.mpr ⟨len, m0, m1, format, rfl, rfl⟩, ?_, ?_⟩
    · rw [Instr.df, rowOfFields_parts format, df]
    · rw [Instr.tc, rowOfFields_parts format, tc]

/-- The mask `F8` and a match byte test the upper five bits of a byte, and nothing else (R97). -/
theorem and_mask_eq_match_iff (x y : BitVec 5) (z : BitVec 3) :
    (x ++ z) &&& 0xF8#8 = BitVec.ofNat 8 (y.toNat * 8) ↔ x = y := by
  have masked : (x ++ z) &&& 0xF8#8 = x ++ 0#3 := by
    revert x z
    decide
  have word : BitVec.ofNat 8 (y.toNat * 8) = y ++ 0#3 := by
    revert y
    decide
  rw [masked, word]
  exact BitVec.append_left_inj 0#3

/-- Settles O8: the masked bytes compared one by one are the tests of the decode. -/
theorem rowIsSelectedByMaskAndMatch : Obligations.RowIsSelectedByMaskAndMatch := by
  unfold Obligations.RowIsSelectedByMaskAndMatch
  intro i b len
  have bytes : b.take 14 = (List.range 14).map fun k => field b (8 * (0 + k)) 8 :=
    take_drop_eq_map_field (k := 0) (by omega)
  have format : field b 72 8 = field b 72 5 ++ field b 77 3 := (field_append b 72 5 3).symm
  have code : field b 104 8 = field b 104 5 ++ field b 109 3 := (field_append b 104 5 3).symm
  have whole (x : Byte) : x &&& 0xFF#8 = x := BitVec.and_allOnes
  rw [decode_selects_iff len, bytes]
  simp [List.range_succ, Machine.rowMask, Machine.rowMatch, format, code, whole,
    and_mask_eq_match_iff]

/-- Settles O5: each word is the encoding of its instruction with two bytes after it. -/
theorem sampleWordsDecode : Obligations.SampleWordsDecode := by
  unfold Obligations.SampleWordsDecode
  exact ⟨decodeOfEncodeIsTheInstruction (.identDf17Tc4 ⟨0, 0, 5, 0x841BD1⟩ 0) [0x2C, 0xC3] le_rfl,
    decodeOfEncodeIsTheInstruction (.baroDf17Tc11 ⟨0x010203040506, 0xFF, 5, 0x40621D⟩ 0)
      [0xC3, 0x82] le_rfl,
    decodeOfEncodeIsTheInstruction (.gnssDf18Tc20 ⟨0, 0, 0, 0xA00004⟩ 7) [0, 0x0F] le_rfl,
    decodeOfEncodeIsTheInstruction (.unknownDf17Tc19 ⟨0, 0, 5, 0x841BD1⟩ 5) [0, 0] le_rfl⟩

end Sys2Proof
end

section
/-! SUPPORT. What one DECODE writes, as a function of the buffer's length and fields: its payload by
class, its result, and the step that writes it. -/

namespace Sys2Proof

/-- A stage that ends for want of bits. -/
def Stage.Exhausts {α : Type} (r : Stage α) : Prop := ∃ c, r = .raise .exhausted c

theorem Stage.Exhausts.andThen {α β : Type} {r : Stage α} (h : r.Exhausts)
    (k : α → Cursor → Stage β) : (r.andThen k).Exhausts := by
  obtain ⟨c, rfl⟩ := h
  exact ⟨c, rfl⟩

/-- A sequence ends for want of bits when its second stage does, at the place the first can reach. -/
theorem Stage.EndsAt.andThen_exhausts {α β : Type} {r : Stage α} {k : α → Cursor → Stage β}
    {p : Nat} (first : r.EndsAt p) (next : ∀ a, (k a (.ofPos p)).Exhausts) :
    (r.andThen k).Exhausts := by
  cases first with
  | ok a => exact next a
  | raise c => exact ⟨c, rfl⟩

namespace Machine

/-! ## An identification frame that is cut short (R166) -/

theorem takeCodes_exhausts {b : List Byte} (short : b.length < 20) :
    (takeCodes b (.ofPos 112)).Exhausts :=
  (take_endsAt b 6 112).andThen_exhausts fun _ => (take_endsAt b 6 118).andThen_exhausts fun _ =>
  (take_endsAt b 6 124).andThen_exhausts fun _ => (take_endsAt b 6 130).andThen_exhausts fun _ =>
  (take_endsAt b 6 136).andThen_exhausts fun _ => (take_endsAt b 6 142).andThen_exhausts fun _ =>
  (take_endsAt b 6 148).andThen_exhausts fun _ =>
    Stage.Exhausts.andThen ⟨_, take_exhausted (by omega)⟩ _

theorem callsign_exhausts {b : List Byte} (short : b.length < 20) :
    (callsign b (.ofPos 112)).Exhausts :=
  (alignCheck_endsAt rfl).andThen_exhausts fun _ => (takeCodes_exhausts short).andThen _

theorem payloadIdent_exhausts {b : List Byte} (short : b.length < 20) :
    (payloadIdent b (.ofPos 109)).Exhausts :=
  (category_endsAt b).andThen_exhausts fun _ => (callsign_exhausts short).andThen _

/-! ## The result -/

/-- The registers of the payload that follows a prefix of type code `tc` (R143 to R148). -/
def payloadOf (b : List Byte) (tc : BitVec 5) : Except Failure PayloadRegs :=
  match classOf tc with
  | .ident => if b.length < 20 then .error .exhausted else .ok (identRegs ((codesOf b).map ch))
  | .baro => .ok (baroRegs (field b 112 12))
  | .gnss => .ok (gnssRegs (field b 112 12))
  | .unknown => .ok unknownRegs

/-- A decoded frame as the write-back takes it (R175). -/
structure DecodedFrame where
  df : BitVec 5
  tc : BitVec 5
  ca : BitVec 3
  addr : BitVec 24
  regs : PayloadRegs

/-- The result of DECODE for a buffer (R173). -/
def resultOf (b : List Byte) : Except Failure DecodedFrame :=
  if b.length < 16 then .error .exhausted
  else if field b 0 8 ≠ 0x1A ∨ field b 8 8 ≠ 0x33 then .error .notAFrame
  else if field b 72 5 ≠ 17 ∧ field b 72 5 ≠ 18 then .error .badDf
  else (payloadOf b (field b 104 5)).map fun r =>
    ⟨field b 72 5, field b 104 5, field b 77 3, field b 80 24, r⟩

/-- `WRITE_RESULT` (R175). -/
def writeResult (r : Except Failure DecodedFrame) (s : State) : State :=
  match r with
  | .ok f => writeOk f.df f.tc f.ca f.addr f.regs s
  | .error x => takeFailure x s

/-- Over a readable buffer a payload decoder's end is put into the state. -/
theorem runPayload_eq {p : List Byte → Cursor → Stage PayloadRegs} {df tc : BitVec 5} {h : Head}
    {s : State} {b : List Byte} (buffer : s.frameBytes = some b) :
    runPayload p df tc h s = .next (finishStage (p b s.cur) (writeOk df tc h.ca h.addr) s) := by
  simp only [runPayload, buffer]

/-- A row at its place, over a buffer that HDR lets through, writes the result of its payload. -/
theorem exec_payloadOf {i : Instr} {s : State} {b : List Byte} (buffer : s.frameBytes = some b)
    (place : s.cur = .ofPos 109) (len : 16 ≤ b.length) :
    ∃ c, exec i s = .next (writeResult
      ((payloadOf b i.tc).map fun r => ⟨i.df, i.tc, i.head.ca, i.head.addr, r⟩)
      { s with cur := c }) := by
  rw [exec_eq, payloadOf, i.classOf_tc]
  simp only [runPayload_eq buffer, place]
  cases i.cls with
  | ident =>
    by_cases short : b.length < 20
    · obtain ⟨c, raised⟩ := payloadIdent_exhausts short
      rw [if_pos short]
      exact ⟨c, by simp only [raised]; rfl⟩
    · rw [if_neg short]
      exact ⟨_, by simp only [payloadIdent_ok (Nat.le_of_not_lt short)]; rfl⟩
  | baro => exact ⟨_, by simp only [payloadBaro_ok len]; rfl⟩
  | gnss => exact ⟨_, by simp only [payloadGnss_ok len]; rfl⟩
  | unknown => exact ⟨s.cur, rfl⟩

/-- DECODE of a readable buffer writes the buffer's result, wherever the cursor ends. -/
theorem decodeFrame_resultOf {s : State} {b : List Byte} (buffer : s.frameBytes = some b) :
    ∃ c, decodeFrame s = .next (writeResult (resultOf b) { s with cur := c }) := by
  rw [decodeFrame_eq buffer, decode_eq, resultOf]
  split_ifs with short marker format
  · exact ⟨_, rfl⟩
  · exact ⟨_, rfl⟩
  · exact ⟨_, rfl⟩
  · rw [not_and_or, not_not, not_not] at format
    obtain ⟨c, run⟩ := exec_payloadOf (i := rowOfFields b) (s := { s with cur := .ofPos 109 })
      buffer rfl (Nat.le_of_not_lt short)
    refine ⟨c, run.trans ?_⟩
    simp only [Instr.df, Instr.tc, Instr.head, rowOfFields_parts format, headOf]

/-- The step that decodes writes the buffer's result. -/
theorem step_decode {s : State} {rest : List Command} {b : List Byte}
    (ready : Ready s .decode rest b) :
    ∃ c, step s = .next (complete (writeResult (resultOf b)
      { s with pending := rest, cur := c })) := by
  obtain ⟨c, run⟩ := decodeFrame_resultOf (s := { s with pending := rest }) ready.buffer
  refine ⟨c, ?_⟩
  rw [step_cons ready.pending, runCommand, execDecode, if_neg (by simp [ready.notHalted]), run,
    thenRun_next]

end Machine

end Sys2Proof
end

section
/-! SUPPORT. The assembler against the payload decoders: the packed codes and the packed altitude are
read back as written, the trimmed length is the one R30 states, and so an assembled frame decodes to
the Frame it was written as (R103). -/

namespace Sys2Proof.Machine

/-! ## Packed payloads -/

/-- The codes of a buffer packed again are its bytes 14 to 19 (R86). -/
theorem packCodes_codesOf {b : List Byte} (len : 20 ≤ b.length) :
    packCodes (codesOf b) = (b.drop 14).take 6 := by
  have byte14 : field b 112 6 ++ field b 118 2 = field b 112 8 := field_append b 112 6 2
  have byte15 : field b 120 4 ++ field b 124 4 = field b 120 8 := field_append b 120 4 4
  have byte16 : field b 128 2 ++ field b 130 6 = field b 128 8 := field_append b 128 2 6
  have byte17 : field b 136 6 ++ field b 142 2 = field b 136 8 := field_append b 136 6 2
  have byte18 : field b 144 4 ++ field b 148 4 = field b 144 8 := field_append b 144 4 4
  have byte19 : field b 152 2 ++ field b 154 6 = field b 152 8 := field_append b 152 2 6
  rw [take_drop_eq_map_field len]
  simp [packCodes, codesOf, field_extractLsb', List.range_succ, byte14, byte15, byte16, byte17,
    byte18, byte19]

theorem packCodes_length (codes : Eight (BitVec 6)) : (packCodes codes).length = 6 := rfl

/-- Packed codes determine the codes. -/
theorem packCodes_injective {c d : Eight (BitVec 6)} (same : packCodes c = packCodes d) : c = d := by
  obtain ⟨c0, c1, c2, c3, c4, c5, c6, c7⟩ := c
  obtain ⟨d0, d1, d2, d3, d4, d5, d6, d7⟩ := d
  simp only [packCodes, List.cons.injEq, and_true] at same
  obtain ⟨byte14, byte15, byte16, byte17, byte18, byte19⟩ := same
  obtain ⟨h0, upper1⟩ := append_eq_append_iff.mp byte14
  obtain ⟨lower1, upper2⟩ := append_eq_append_iff.mp byte15
  obtain ⟨lower2, h3⟩ := append_eq_append_iff.mp byte16
  obtain ⟨h4, upper5⟩ := append_eq_append_iff.mp byte17
  obtain ⟨lower5, upper6⟩ := append_eq_append_iff.mp byte18
  obtain ⟨lower6, h7⟩ := append_eq_append_iff.mp byte19
  have h1 : c1 = d1 := eq_of_parts (m := 4) lower1 upper1
  have h2 : c2 = d2 := eq_of_parts (m := 2) lower2 upper2
  have h5 : c5 = d5 := eq_of_parts (m := 4) lower5 upper5
  have h6 : c6 = d6 := eq_of_parts (m := 2) lower6 upper6
  rw [h0, h1, h2, h3, h4, h5, h6, h7]

/-- The codes packed after 14 bytes are read back, whatever follows them. -/
theorem codesOf_packCodes {pre : List Byte} (len : pre.length = 14) (codes : Eight (BitVec 6))
    (extra : List Byte) : codesOf (pre ++ (packCodes codes ++ extra)) = codes := by
  apply packCodes_injective
  have long : 20 ≤ (pre ++ (packCodes codes ++ extra)).length := by
    rw [List.length_append, List.length_append, len, packCodes_length]
    omega
  rw [packCodes_codesOf long, ← len, List.drop_left]
  exact List.take_left' rfl

/-- The altitude packed after 14 bytes is read back, whatever follows it. -/
theorem field_packAlt {pre : List Byte} (len : pre.length = 14) (alt : BitVec 12)
    (extra : List Byte) : field (pre ++ (packAlt alt ++ extra)) 112 12 = alt := by
  have byte (k : Nat) : field (pre ++ (packAlt alt ++ extra)) (8 * (14 + k)) 8 =
      (packAlt alt ++ extra).getD k 0 := by
    rw [field_byte, List.getD_append_right _ _ _ _ (by omega), len, Nat.add_sub_cancel_left]
  have byte15 := (field_append _ 120 4 4).trans (byte 1)
  apply eq_of_parts (m := 4) (n := 8)
  · rw [field_extractLsb' _ _ (by decide)]
    exact (append_eq_append_iff.mp byte15).1
  · rw [field_extractLsb' _ _ (by decide)]
    exact byte 0

/-! ## The trimmed text -/

/-- The trimming loop drops the spaces at the end of the first `n` bytes, and no others (R30). -/
theorem trimLoop_add_trailingSpaces {cs : List Byte} {n : Nat} (h : n ≤ cs.length) :
    trimLoop cs n + trailingSpaces (cs.take n) = n := by
  induction n with
  | zero => simp [trimLoop, trailingSpaces]
  | succ n ih =>
    have last : cs.take (n + 1) = cs.take n ++ [cs.getD n 0] := by
      rw [List.take_add_one, List.getD_eq_getElem _ _ h, List.getElem?_eq_getElem h]
      rfl
    have rest := ih (by omega)
    rw [trimLoop, last]
    split
    · next space =>
      rw [trailingSpaces, List.reverse_append, List.reverse_singleton, List.singleton_append,
        List.takeWhile_cons_of_pos (by rw [space]; rfl), List.length_cons, ← trailingSpaces]
      omega
    · next other =>
      rw [trailingSpaces, List.reverse_append, List.reverse_singleton, List.singleton_append,
        List.takeWhile_cons_of_neg (by simpa using other)]
      rfl

theorem trimmedLen_eq (cs : Eight Byte) : trimmedLen cs = 8 - trailingSpaces cs.toList := by
  have whole : trimLoop cs.toList 8 + trailingSpaces cs.toList = 8 :=
    trimLoop_add_trailingSpaces (cs := cs.toList) le_rfl
  rw [trimmedLen]
  omega

/-! ## Assembled frames -/

/-- The payload registers of a frame in mnemonic form (R175). -/
def regsOfText : FrameText → PayloadRegs
  | .ident _ _ _ _ codes => identRegs (codes.map ch)
  | .baro _ _ _ _ _ alt => baroRegs alt
  | .gnss _ _ _ _ _ alt => gnssRegs alt
  | .unknown _ _ _ _ => unknownRegs

/-- The checks of R103, one by one. -/
theorem rowOk_iff {cls : FrameClass} {df tc : BitVec 5} :
    rowOk cls df tc = true ↔ (df = 17 ∨ df = 18) ∧ classOf tc = cls := by
  simp only [rowOk, dfAccepted, Bool.and_eq_true, Bool.or_eq_true, beq_iff_eq]

/-- A buffer that begins with the prefix of an accepted format decodes as its payload does. -/
theorem resultOf_encodePrefix {df tc : BitVec 5} (h : Head) (low3 : BitVec 3) {tail : List Byte}
    (format : df = 17 ∨ df = 18) (len : 2 ≤ tail.length) :
    resultOf (encodePrefix df tc h low3 ++ tail) =
      (payloadOf (encodePrefix df tc h low3 ++ tail) tc).map fun r => ⟨df, tc, h.ca, h.addr, r⟩ := by
  obtain ⟨m0, m1⟩ := markers_encodePrefix df tc h low3 tail
  obtain ⟨hdf, htc, head, -⟩ := fields_encodePrefix df tc h low3 tail
  have hca := congrArg Head.ca head
  have haddr := congrArg Head.addr head
  simp only [headOf] at hca haddr
  have long : ¬ (encodePrefix df tc h low3 ++ tail).length < 16 := by
    rw [List.length_append, encodePrefix_length]
    omega
  rw [resultOf, if_neg long, if_neg (by simp [m0, m1]), hdf,
    if_neg (by rwa [not_and_or, not_not, not_not]), htc, hca, haddr]

/-- The result of DECODE that a frame in mnemonic form stands for. -/
def decodedOfText (f : FrameText) : DecodedFrame :=
  let frame := frameOfText f
  ⟨frame.df, tcOfText f, frame.ca, frame.addr, regsOfText f⟩

/-- An assembled frame decodes to what was written, whatever bytes follow it. -/
theorem resultOf_assemble {f : FrameText} (wf : f.wf = true) (extra : List Byte) :
    resultOf (assemble f ++ extra) = .ok (decodedOfText f) := by
  cases f with
  | ident df tc h cat codes =>
    obtain ⟨format, cls⟩ := rowOk_iff.mp wf
    have len : (packCodes codes ++ extra).length = 6 + extra.length := List.length_append
    have long : ¬ (encodePrefix df tc h cat ++ (packCodes codes ++ extra)).length < 20 := by
      rw [List.length_append, encodePrefix_length, len]
      omega
    rw [assemble, List.append_assoc, resultOf_encodePrefix h cat format (by omega), payloadOf, cls]
    simp only [if_neg long, codesOf_packCodes (encodePrefix_length ..)]
    rfl
  | baro df tc h ss saf alt | gnss df tc h ss saf alt =>
    obtain ⟨format, cls⟩ := rowOk_iff.mp wf
    rw [assemble, List.append_assoc, resultOf_encodePrefix h _ format (by simp [packAlt]),
      payloadOf, cls]
    simp only [field_packAlt (encodePrefix_length ..)]
    rfl
  | unknown df tc h low3 =>
    obtain ⟨format, cls⟩ := rowOk_iff.mp wf
    rw [assemble, List.append_assoc, resultOf_encodePrefix h low3 format (by simp), payloadOf, cls]
    rfl

@[simp] theorem complete_frame (s : State) : (complete s).frame = s.frame := rfl

/-- The registers written for a frame in mnemonic form show the Frame that it stands for. -/
theorem frame_writeResult_text (f : FrameText) (s : State) :
    (writeResult (.ok (decodedOfText f)) s).frame = some (frameOfText f) := by
  cases f with
  | ident df tc h cat codes =>
    calc (writeResult (.ok (decodedOfText (.ident df tc h cat codes))) s).frame
        = some ⟨df, h.ca, h.addr, .identification ((codes.map ch).toList.take
            (BitVec.ofNat 4 (trimmedLen (codes.map ch))).toNat)⟩ := rfl
      _ = some (frameOfText (.ident df tc h cat codes)) := by
        rw [toNat_ofNat_trimmedLen, trimmedLen_eq, funext ch_eq_charOfCode]
        rfl
  | _ => rfl

/-- Settles O10: the frame's result is what was written, and the step writes it. -/
theorem assembledFrameDecodesToItsOperands : Obligations.AssembledFrameDecodesToItsOperands := by
  unfold Obligations.AssembledFrameDecodesToItsOperands
  intro f extra s rest wf ready
  obtain ⟨c, run⟩ := step_decode ready
  rw [resultOf_assemble wf] at run
  exact ⟨_, run, (complete_frame _).trans (frame_writeResult_text f _), rfl⟩

end Sys2Proof.Machine
end

section
/-! SUPPORT. Don't-care bits (R91): the frame bits that the result of DECODE depends on are those of
the care mask of the buffer's type code. -/

namespace Sys2Proof.Machine

/-- Two buffers agree on the frame bits that a mask has. -/
def AgreeOn (mask b d : List Byte) : Prop :=
  ∀ n < 160, frameBit mask n = true → frameBit b n = frameBit d n

/-- Buffers with the same masked bytes agree on the mask's bits. -/
theorem agreeOn_of_masked {mask b d : List Byte}
    (same : ∀ k < 20, b.getD k 0 &&& mask.getD k 0 = d.getD k 0 &&& mask.getD k 0) :
    AgreeOn mask b d := by
  intro n hn care
  have byte := congrArg (fun v : Byte => v.getLsbD (7 - n % 8)) (same (n / 8) (by omega))
  simp only [BitVec.getLsbD_and] at byte
  rw [frameBit] at care
  rwa [care, Bool.and_true, Bool.and_true] at byte

/-- A field inside the mask is the same in buffers that agree on it. -/
theorem AgreeOn.field_eq {mask b d : List Byte} (agree : AgreeOn mask b d) {lo hi : Nat}
    (care : ∀ m, m < hi → lo ≤ m → frameBit mask m = true) (n w : Nat)
    (inside : lo ≤ n ∧ n + w ≤ hi ∧ hi ≤ 160 := by decide) : field b n w = field d n w :=
  field_congr fun m _ _ => agree m (by omega) (care m (by omega) (by omega))

/-! ## The bits of the care mask -/

theorem frameBit_append_left (p q : List Byte) {n : Nat} (h : n < 8 * p.length) :
    frameBit (p ++ q) n = frameBit p n := by
  rw [frameBit, frameBit, List.getD_append _ _ _ _ (by omega)]

theorem careMask_markers (tc m : Nat) (hi : m < 16) (_ : 0 ≤ m) :
    frameBit (careMask tc) m = true := by
  rw [careMask, frameBit_append_left _ _ (Nat.lt_of_lt_of_le hi (by decide))]
  revert m
  decide

theorem careMask_prefix (tc m : Nat) (hi : m < 109) (lo : 72 ≤ m) :
    frameBit (careMask tc) m = true := by
  rw [careMask, frameBit_append_left _ _ (Nat.lt_of_lt_of_le hi (by decide))]
  revert m
  decide

theorem careMask_text {tc : Nat} (range : 1 ≤ tc ∧ tc < 5) (m : Nat) (hi : m < 160)
    (lo : 112 ≤ m) : frameBit (careMask tc) m = true := by
  rw [careMask, if_pos range]
  revert m
  decide

theorem careMask_altitude {tc : Nat} (range : 9 ≤ tc ∧ tc < 19 ∨ 20 ≤ tc ∧ tc < 23) (m : Nat)
    (hi : m < 124) (lo : 112 ≤ m) : frameBit (careMask tc) m = true := by
  rw [careMask, if_neg (by omega), if_pos range]
  revert m
  decide

/-! ## The result -/

theorem payloadOf_congr {b d : List Byte} {tc : BitVec 5} (len : b.length = d.length)
    (agree : AgreeOn (careMask tc.toNat) b d) : payloadOf b tc = payloadOf d tc := by
  obtain ⟨ident, baro, gnss⟩ := classKind_classOf tc
  simp only [payloadOf]
  split
  · next cls =>
    have care := careMask_text (ident.mp (by rw [cls]; rfl))
    have code (n : Nat) (inside : 112 ≤ n ∧ n + 6 ≤ 160) : field b n 6 = field d n 6 :=
      agree.field_eq care n 6 ⟨inside.1, inside.2, le_rfl⟩
    simp (disch := decide) only [codesOf, len, code]
  · next cls => rw [agree.field_eq (careMask_altitude (.inl (baro.mp (by rw [cls]; rfl)))) 112 12]
  · next cls => rw [agree.field_eq (careMask_altitude (.inr (gnss.mp (by rw [cls]; rfl)))) 112 12]
  · rfl

/-- The result of DECODE depends on the buffer's length and the bits of its care mask only. -/
theorem resultOf_congr {b d : List Byte} (len : b.length = d.length)
    (agree : AgreeOn (careMask (byteAt b 13 / 8)) b d) : resultOf b = resultOf d := by
  have code : (field b 104 5).toNat = byteAt b 13 / 8 :=
    (field_toNat b 104 5).trans (fbits_byte_high b 13 (by decide))
  rw [← code] at agree
  have markers := careMask_markers (field b 104 5).toNat
  have pre := careMask_prefix (field b 104 5).toNat
  rw [resultOf, payloadOf_congr len agree, agree.field_eq markers 0 8, agree.field_eq markers 8 8,
    agree.field_eq pre 72 5, agree.field_eq pre 77 3, agree.field_eq pre 80 24,
    agree.field_eq pre 104 5, len, resultOf]

/-- The registers a result is written to do not depend on what the state held before. -/
theorem sameResult_writeResult (r : Except Failure DecodedFrame) (s u : State) :
    SameResult (complete (writeResult r s)) (complete (writeResult r u)) := by
  cases r <;> exact ⟨rfl, rfl, rfl, rfl, rfl, rfl, rfl, rfl, rfl⟩

/-- Settles O20: both steps write the same result. -/
theorem dontCareBitsDoNotMatter : Obligations.DontCareBitsDoNotMatter := by
  unfold Obligations.DontCareBitsDoNotMatter
  intro s u rest rest' b d first second len same
  obtain ⟨c, run⟩ := step_decode first
  obtain ⟨e, run'⟩ := step_decode second
  rw [← resultOf_congr len (agreeOn_of_masked same)] at run'
  exact ⟨_, _, run, run', sameResult_writeResult _ _ _⟩

end Sys2Proof.Machine
end

section
/-! SUPPORT. What R111 says of every take, whichever cursor it starts from: when it is exhausted,
and, through `take_eq_ok`, its value and cursor when it is not. -/

namespace Sys2Proof

/-- A take can only fail by exhaustion: too few bits are left, and the cursor stands still. -/
theorem take_eq_raise {b : List Byte} {w : Nat} {c d : Cursor} {hw : 0 < w ∧ w ≤ 32}
    {x : Failure} :
    take b w c hw = .raise x d ↔ 8 * b.length - c.pos < w ∧ x = .exhausted ∧ d = c := by
  unfold take
  split
  · simp only [Stage.raise.injEq, eq_comm (a := x), eq_comm (a := d), iff_and_self]
    exact fun _ => ‹_›
  · simp only [reduceCtorEq, false_iff]
    exact fun ⟨short, _⟩ => absurd short ‹_›

/-- The cursor at the end of a buffer of `n` bytes (R111). -/
@[simp] theorem Cursor.ofPos_eight_mul (n : Nat) : Cursor.ofPos (8 * n) = ⟨n, 0⟩ := by
  simp [Cursor.ofPos]

/-- Settles O3: `take_eq_raise` is the exhaustion test, `take_eq_ok` the value and the cursor. -/
theorem takeReadsOrIsExhausted : Obligations.TakeReadsOrIsExhausted := by
  unfold Obligations.TakeReadsOrIsExhausted
  intro b w hw c
  refine ⟨fun short => take_eq_raise.mpr ⟨short, rfl, rfl⟩, fun enough => ?_⟩
  have present : c.pos + w ≤ 8 * b.length := by
    unfold Cursor.pos
    omega
  refine ⟨field b c.pos w, .ofPos (c.pos + w), take_eq_ok.mpr ⟨present, rfl, rfl⟩,
    field_toNat b c.pos w, rfl, rfl, fun atEnd => ?_⟩
  rw [Cursor.pos, atEnd, Cursor.ofPos_eight_mul]

end Sys2Proof
end

section
/-! SUPPORT. When the decode of the common prefix is exhausted and when it raises `NOT_A_FRAME`,
each with the cursor it leaves (R121, R122). -/

namespace Sys2Proof

/-- The length test of HDR is the only one that ends the prefix for want of bits (R121). -/
theorem decode_eq_exhausted {b : List Byte} {c : Cursor} :
    decode b = .raise .exhausted c ↔ b.length < 16 ∧ c = ⟨0, 0⟩ := by
  rw [decode_eq]
  split_ifs with short
  · simp only [Stage.raise.injEq, true_and, short, eq_comm (a := c)]
    rfl
  all_goals simp [short]

/-- The marker test comes after the length test and before every other one (R122). -/
theorem decode_eq_notAFrame {b : List Byte} {c : Cursor} :
    decode b = .raise .notAFrame c ↔
      16 ≤ b.length ∧ (field b 0 8 ≠ 0x1A ∨ field b 8 8 ≠ 0x33) ∧ c = ⟨2, 0⟩ := by
  rw [decode_eq]
  split_ifs with short marker
  · simp [Nat.not_le.mpr short]
  · simp only [Stage.raise.injEq, true_and, Nat.le_of_not_lt short, marker, eq_comm (a := c)]
    rfl
  all_goals exact iff_of_false (by simp) fun ⟨_, mismatch, _⟩ => marker mismatch

/-- A whole byte of the frame has the value `v` exactly when its number is that of `v`. -/
theorem field_byte_eq_iff (b : List Byte) (k : Nat) (v : Byte) :
    field b (8 * k) 8 = v ↔ Machine.byteAt b k = v.toNat := by
  rw [field_byte, Machine.byteAt, BitVec.toNat_inj]

/-- Settles O11: the length test is the first, and no later one is exhausted. -/
theorem shortBufferIsExhausted : Obligations.ShortBufferIsExhausted := by
  unfold Obligations.ShortBufferIsExhausted
  refine ⟨fun b short => decode_eq_exhausted.mpr ⟨short, rfl⟩, fun b len c raised => ?_⟩
  have short : b.length < 16 := (decode_eq_exhausted.mp raised).1
  exact absurd len (Nat.not_le.mpr short)

/-- Settles O12: the two fields the marker test compares are bytes 0 and 1. -/
theorem markerMismatchIsNotAFrame : Obligations.MarkerMismatchIsNotAFrame := by
  unfold Obligations.MarkerMismatchIsNotAFrame
  intro b len
  have first : field b 0 8 = 0x1A ↔ Machine.byteAt b 0 = 0x1A := field_byte_eq_iff b 0 0x1A
  have second : field b 8 8 = 0x33 ↔ Machine.byteAt b 1 = 0x33 := field_byte_eq_iff b 1 0x33
  simp only [decode_eq_notAFrame, len, true_and, exists_and_left, exists_eq, and_true, ne_eq, first,
    second]

end Sys2Proof
end

section
/-! SUPPORT. The class of a type code as a range (R141), and what the rows of each class leave in
the state when they run at their payload (R143 to R148). -/

namespace Sys2Proof

/-- The dispatch as ranges: each class is one range of type codes, UNKNOWN the fifteen that are left
(R141). -/
theorem classOf_ranges (tc : BitVec 5) :
    (classOf tc = .ident ↔ 1 ≤ tc.toNat ∧ tc.toNat < 5) ∧
    (classOf tc = .baro ↔ 9 ≤ tc.toNat ∧ tc.toNat < 19) ∧
    (classOf tc = .gnss ↔ 20 ≤ tc.toNat ∧ tc.toNat < 23) ∧
    (classOf tc = .unknown ↔
      tc.toNat ∈ [0, 5, 6, 7, 8, 19, 23, 24, 25, 26, 27, 28, 29, 30, 31]) := by
  have bound : tc.toNat < 32 := tc.isLt
  unfold classOf
  split_ifs <;> simp only [true_iff, false_iff, List.mem_cons, List.not_mem_nil, or_false] <;>
    omega

/-- A decoded row has the type code that its buffer holds. -/
theorem decode_ok_tc {b : List Byte} {i : Instr} {c : Cursor} (h : decode b = .ok i c) :
    i.tc = field b 104 5 := by
  obtain ⟨-, -, -, format, rfl, -⟩ := decode_eq_ok.mp h
  rw [Instr.tc, rowOfFields_parts format]

/-- Settles O9: a row's class is that of its type code, which is the upper five bits of byte 13. -/
theorem classIsTheRangeOfTheTypeCode : Obligations.ClassIsTheRangeOfTheTypeCode := by
  unfold Obligations.ClassIsTheRangeOfTheTypeCode
  refine ⟨fun b i c h => ⟨?_, ?_⟩, by decide, by decide, by decide, by decide⟩
  · rw [decode_ok_tc h, field_toNat]
    exact Machine.fbits_byte_high b 13 (by decide)
  · rw [← i.classOf_tc]
    exact classOf_ranges i.tc

namespace Machine

/-- A row's columns, read off a list that gives them for all of its rows. -/
theorem parts_of_mem {rows : List (BitVec 5 × BitVec 5 × Instr)} {cls : FrameClass} {h : Head}
    {l : BitVec 3} {df tc : BitVec 5} {i : Instr}
    (listed : rows.map (·.2.2.parts) = rows.map fun r => ⟨cls, r.1, r.2.1, h, l⟩)
    (mem : (df, tc, i) ∈ rows) : i.parts = ⟨cls, df, tc, h, l⟩ :=
  List.map_inj_left.mp listed _ mem

section rows
variable {df tc : BitVec 5} {h : Head} {s : State} {b : List Byte}

/-- Every meaning by what its row lists: `exec_eq` with the row's columns in hand. -/
theorem exec_of_parts {i : Instr} {cls : FrameClass} {l : BitVec 3}
    (parts : i.parts = ⟨cls, df, tc, h, l⟩) : exec i s =
      match cls with
      | .ident => runPayload payloadIdent df tc h s
      | .baro => runPayload payloadBaro df tc h s
      | .gnss => runPayload payloadGnss df tc h s
      | .unknown => .next (writeOk df tc h.ca h.addr unknownRegs s) := by
  cases cls <;> simp only [exec_eq, Instr.cls, Instr.df, Instr.tc, Instr.head, parts]

/-- A payload decoder that runs where the type code left the cursor, over a readable buffer. -/
theorem runPayload_atPlace {p : List Byte → Cursor → Stage PayloadRegs} (place : s.cur = ⟨13, 5⟩)
    (buffer : s.frameBytes = some b) : runPayload p df tc h s =
      .next (finishStage (p b (.ofPos 109)) (writeOk df tc h.ca h.addr) s) := by
  rw [runPayload_eq buffer, place]
  rfl

/-- BARO and GNSS alike: a payload decoder that reads the raw altitude leaves it with its kind. -/
theorem runPayload_altitude {p : List Byte → Cursor → Stage PayloadRegs} {k : Kind}
    (reads : p b (.ofPos 109) = .ok ⟨k, .fill 0, 0, field b 112 12⟩ (.ofPos 124))
    (place : s.cur = ⟨13, 5⟩) (buffer : s.frameBytes = some b) :
    runPayload p df tc h s = .next (altAfter k df tc h b s) := by
  rw [runPayload_atPlace place buffer, reads, field_altitude]
  rfl

end rows

/-- The state after an identification frame holds the mapped codes and their trimmed length. -/
theorem writeOk_identRegs (df tc : BitVec 5) (h : Head) (b : List Byte) (s : State) :
    writeOk df tc h.ca h.addr (identRegs ((codesOf b).map ch)) { s with cur := .ofPos 160 } =
      identAfter df tc h b s := by
  rw [map_ch_codesOf, identRegs, trimmedLen_eq]
  rfl

/-- Settles O25: the payload of an IDENT row succeeds at 20 bytes and is exhausted below. -/
theorem identificationRowsComplete : Obligations.IdentificationRowsComplete := by
  unfold Obligations.IdentificationRowsComplete
  intro h l s b df tc i mem place buffer
  have parts : i.parts = ⟨.ident, df, tc, h, l⟩ := parts_of_mem rfl mem
  have run := (exec_of_parts parts).trans (runPayload_atPlace place buffer)
  constructor
  · intro len
    rw [run, payloadIdent_ok len, finishStage, writeOk_identRegs]
  · intro short
    obtain ⟨c, raised⟩ := payloadIdent_exhausts short
    rw [raised] at run
    exact ⟨_, run, rfl, ⟨rfl, rfl, rfl, rfl, rfl, rfl, rfl, rfl⟩, rfl, rfl, rfl, rfl, rfl⟩

/-- Settles O26: the payload of a BARO row succeeds over every buffer that HDR lets through. -/
theorem barometricRowsComplete : Obligations.BarometricRowsComplete := by
  unfold Obligations.BarometricRowsComplete
  intro h l s b df tc i mem place buffer len
  have parts : i.parts = ⟨.baro, df, tc, h, l⟩ := parts_of_mem rfl mem
  exact (exec_of_parts parts).trans (runPayload_altitude (payloadBaro_ok len) place buffer)

/-- Settles O27: the payload of a GNSS row, laid out as that of BARO, gives its own variant. -/
theorem gnssRowsComplete : Obligations.GnssRowsComplete := by
  unfold Obligations.GnssRowsComplete
  intro h l s b df tc i mem place buffer len
  have parts : i.parts = ⟨.gnss, df, tc, h, l⟩ := parts_of_mem rfl mem
  exact (exec_of_parts parts).trans (runPayload_altitude (payloadGnss_ok len) place buffer)

/-- Settles O28: an UNKNOWN row has no payload to read. -/
theorem unknownRowsComplete : Obligations.UnknownRowsComplete := by
  unfold Obligations.UnknownRowsComplete
  intro h l s df tc i mem
  have parts : i.parts = ⟨.unknown, df, tc, h, l⟩ := parts_of_mem rfl mem
  exact exec_of_parts parts

end Machine

end Sys2Proof
end

section
/-! SUPPORT. The character mapping as arithmetic on codes (R162), and the bytes that trimming
keeps and drops (R164). -/

namespace Sys2Proof.Machine

/-- The character of a code as a number: only the codes of the letters move (R162). -/
theorem toNat_ch (c : BitVec 6) :
    (ch c).toNat = if 1 ≤ c.toNat ∧ c.toNat ≤ 26 then c.toNat + 64 else c.toNat := by
  have bound : c.toNat < 64 := c.isLt
  rw [ch_eq_charOfCode, charOfCode]
  split_ifs <;> rw [BitVec.toNat_ofNat] <;> omega

/-- The two arms of the mapping have disjoint images: the letters are 65 to 90, and every other code
below 64 gives itself. -/
theorem ch_injective : Function.Injective ch := by
  intro c d same
  have boundC : c.toNat < 64 := c.isLt
  have boundD : d.toNat < 64 := d.isLt
  have numbers := congrArg BitVec.toNat same
  rw [toNat_ch, toNat_ch] at numbers
  apply BitVec.eq_of_toNat_eq
  split_ifs at numbers <;> omega

/-- Settles O31: `toNat_ch` is the mapping, and its arms never meet. -/
theorem characterMapping : Obligations.CharacterMapping := by
  unfold Obligations.CharacterMapping
  refine ⟨fun c => ⟨fun letter => ⟨?_, ?_⟩, fun other => ?_⟩, fun c d same => ch_injective same⟩
  · rw [toNat_ch, if_pos letter]
  · rw [ch, if_pos ⟨letter.1, Nat.lt_succ_of_le letter.2⟩]
  · rw [toNat_ch, if_neg other]

/-- What the trimming loop drops from the first `n` bytes is spaces. -/
theorem take_eq_take_trimLoop_append {cs : List Byte} {n : Nat} (h : n ≤ cs.length) :
    cs.take n = cs.take (trimLoop cs n) ++ List.replicate (n - trimLoop cs n) 0x20 := by
  induction n with
  | zero => rfl
  | succ n ih =>
    rw [trimLoop]
    split
    · next space =>
      have last : cs[n] = 0x20 := by rwa [List.getD_eq_getElem _ _ h] at space
      rw [← List.take_append_getElem h, last, ih (by omega), List.append_assoc,
        ← List.replicate_succ', Nat.succ_sub (trimLoop_le cs n)]
    · rw [Nat.sub_self, List.replicate_zero, List.append_nil]

/-- The text that the trimming loop keeps does not end in a space. -/
theorem getLast?_take_trimLoop {cs : List Byte} {n : Nat} (h : n ≤ cs.length) :
    (cs.take (trimLoop cs n)).getLast? ≠ some 0x20 := by
  have bound := trimLoop_le cs n
  by_cases empty : trimLoop cs n = 0
  · simp [empty]
  · have inside : trimLoop cs n - 1 < cs.length := by omega
    have last := getD_trimLoop_ne_space empty
    rw [List.getD_eq_getElem _ _ inside] at last
    simpa [List.getLast?_take, empty, List.getElem?_eq_getElem inside] using last

/-- Settles O32: the loop started at all eight bytes drops spaces and stops at another byte. -/
theorem trimmingRemovesOnlyTrailingSpaces : Obligations.TrimmingRemovesOnlyTrailingSpaces := by
  unfold Obligations.TrimmingRemovesOnlyTrailingSpaces
  intro cs
  exact ⟨trimLoop_le _ 8, take_eq_take_trimLoop_append (cs := cs.toList) le_rfl,
    getLast?_take_trimLoop (cs := cs.toList) le_rfl⟩

end Sys2Proof.Machine
end

section
/-! SUPPORT. Where the decode of a cut identification frame stops (R166, R116 (c)): at the first
character that is not whole, whose number is written `j + 1`. -/

namespace Sys2Proof.Machine

section cut
variable {b : List Byte} {j : Nat}

/-- With `j` whole characters present and the next one cut, the loop of R161 reads those `j` and is
exhausted at the start of the next. -/
theorem takeCodes_cut (character : j < 8) (present : 112 + 6 * j ≤ 8 * b.length)
    (cut : 8 * b.length < 112 + 6 * (j + 1)) :
    takeCodes b (.ofPos 112) = .raise .exhausted (.ofPos (112 + 6 * j)) := by
  -- The 4th and the 8th character end with a byte, so neither is ever the first one cut.
  have number : j = 0 ∨ j = 1 ∨ j = 2 ∨ j = 4 ∨ j = 5 ∨ j = 6 := by omega
  rcases number with rfl | rfl | rfl | rfl | rfl | rfl <;>
    simp (disch := omega) only [takeCodes, take_ofPos, take_exhausted, Stage.andThen_ok,
      Stage.andThen_raise]

/-- The category stands in byte 13, before every character, so only a character can be cut. -/
theorem payloadIdent_cut (character : j < 8) (present : 112 + 6 * j ≤ 8 * b.length)
    (cut : 8 * b.length < 112 + 6 * (j + 1)) :
    payloadIdent b (.ofPos 109) = .raise .exhausted (.ofPos (112 + 6 * j)) := by
  have category : category b (.ofPos 109) = .ok (field b 109 3) (.ofPos 112) :=
    category_ok (by omega)
  simp only [payloadIdent, category, callsign, alignCheck_ofPos (p := 112) rfl,
    takeCodes_cut character present cut, Stage.andThen_ok, Stage.andThen_raise]

end cut

/-- A DECODE step whose bytes name a row runs that row from the cursor after its type code. -/
theorem step_of_decode_ok {s : State} {rest : List Command} {b : List Byte} {i : Instr} {c : Cursor}
    (ready : Ready s .decode rest b) (row : Sys2Proof.decode b = .ok i c) :
    step s = thenRun (exec i { s with pending := rest, cur := c }) fun t => .next (complete t) := by
  have run : decodeFrame { s with pending := rest } =
      exec i { s with pending := rest, cur := c } := by
    rw [decodeFrame_eq (s := { s with pending := rest }) ready.buffer, row]
  rw [step_cons ready.pending, runCommand, execDecode, if_neg (by simp [ready.notHalted]), run]

/-- A DECODE step of an identification frame ends as its payload decoder does. -/
theorem step_identification {s : State} {rest : List Command} {b : List Byte}
    (ready : Ready s .decode rest b) (len : 16 ≤ b.length) (m0 : field b 0 8 = 0x1A)
    (m1 : field b 8 8 = 0x33) (format : field b 72 5 = 17 ∨ field b 72 5 = 18)
    (ident : classOf (field b 104 5) = .ident) :
    step s = .next (complete (finishStage (payloadIdent b (.ofPos 109))
      (writeOk (field b 72 5) (field b 104 5) (headOf b).ca (headOf b).addr)
      { s with pending := rest, cur := ⟨13, 5⟩ })) := by
  have row : Sys2Proof.decode b = .ok (rowOfFields b) ⟨13, 5⟩ :=
    decode_eq_ok.mpr ⟨len, m0, m1, format, rfl, rfl⟩
  have parts := rowOfFields_parts format
  rw [ident] at parts
  have run := (exec_of_parts parts).trans
    (runPayload_atPlace (s := { s with pending := rest, cur := ⟨13, 5⟩ }) rfl ready.buffer)
  rw [step_of_decode_ok ready row, run, thenRun_next]

/-- The upper five bits of a byte, where the format and the type code stand, as a number. -/
theorem field_high_five_eq_iff (b : List Byte) (k : Nat) (v : BitVec 5) :
    field b (8 * k) 5 = v ↔ byteAt b k / 8 = v.toNat := by
  rw [← BitVec.toNat_inj, field_toNat, fbits_byte_high b k (by decide)]
  rfl

/-- Settles O22: at 16, 17, 18 and 19 bytes the whole characters number 2, 4, 5 and 6. -/
theorem cutIdentificationFailsAtItsCharacter :
    Obligations.CutIdentificationFailsAtItsCharacter := by
  unfold Obligations.CutIdentificationFailsAtItsCharacter
  intro s rest b n k ready m0 m1 df tc len cutAt
  have place : 16 ≤ n ∧ 1 ≤ k ∧ k ≤ 8 ∧ 112 + 6 * (k - 1) ≤ 8 * n ∧ 8 * n < 112 + 6 * k := by
    simp only [List.mem_cons, Prod.mk.injEq, List.not_mem_nil, or_false] at cutAt
    omega
  obtain ⟨long, first, last, present, cut⟩ := place
  have format : field b 72 5 = 17 ∨ field b 72 5 = 18 :=
    df.imp (field_high_five_eq_iff b 9 17).mpr (field_high_five_eq_iff b 9 18).mpr
  have ident : classOf (field b 104 5) = .ident := by
    rw [(classOf_ranges _).1, field_toNat, fbits_byte_high b 13 (by decide)]
    exact tc
  have run := step_identification ready (by omega) ((field_byte_eq_iff b 0 0x1A).mpr m0)
    ((field_byte_eq_iff b 1 0x33).mpr m1) format ident
  rw [payloadIdent_cut (j := k - 1) (by omega) (by omega) (by omega)] at run
  exact ⟨_, run, rfl, rfl, Cursor.pos_ofPos _⟩

end Sys2Proof.Machine
end

section
/-! SUPPORT. When the decode of the common prefix raises `ERR_BAD_DF` (R172), and the DECODE step as
the run of the decoded row (R173). -/

namespace Sys2Proof

/-- The format test comes after the length and marker tests and after the address has been read
(R172). -/
theorem decode_eq_badDf {b : List Byte} {c : Cursor} :
    decode b = .raise .badDf c ↔
      16 ≤ b.length ∧ field b 0 8 = 0x1A ∧ field b 8 8 = 0x33 ∧
        (field b 72 5 ≠ 17 ∧ field b 72 5 ≠ 18) ∧ c = ⟨13, 0⟩ := by
  rw [decode_eq]
  split_ifs with short marker format
  · simp [Nat.not_le.mpr short]
  · exact iff_of_false (by simp) fun ⟨_, m0, m1, _⟩ => marker.elim (· m0) (· m1)
  · obtain ⟨m0, m1⟩ : field b 0 8 = 0x1A ∧ field b 8 8 = 0x33 := by
      simpa only [not_or, not_not] using marker
    simp only [Stage.raise.injEq, true_and, Nat.le_of_not_lt short, m0, m1, format, ne_eq,
      not_false_eq_true, and_self, eq_comm (a := c)]
    rfl
  · exact iff_of_false (by simp) fun ⟨_, _, _, other, _⟩ => format other

namespace Machine

/-- What the marker and format tests compare: the whole bytes 0 and 1 and the upper five bits of
byte 9 (R122, R83). -/
theorem marker_and_format_iff (b : List Byte) :
    (field b 0 8 = 0x1A ↔ byteAt b 0 = 0x1A) ∧ (field b 8 8 = 0x33 ↔ byteAt b 1 = 0x33) ∧
    (field b 72 5 = 17 ↔ byteAt b 9 / 8 = 17) ∧ (field b 72 5 = 18 ↔ byteAt b 9 / 8 = 18) :=
  ⟨field_byte_eq_iff b 0 0x1A, field_byte_eq_iff b 1 0x33, field_high_five_eq_iff b 9 17,
    field_high_five_eq_iff b 9 18⟩

/-- Settles O13: the format test is the only one left when the markers match. -/
theorem unacceptedFormatIsRejectedAfterTheAddress :
    Obligations.UnacceptedFormatIsRejectedAfterTheAddress := by
  unfold Obligations.UnacceptedFormatIsRejectedAfterTheAddress
  intro b len m0 m1
  obtain ⟨first, second, is17, is18⟩ := marker_and_format_iff b
  constructor
  · simp only [decode_eq_badDf, len, first, second, m0, m1, true_and, and_true, ne_eq, is17, is18]
  · intro c raised
    obtain ⟨-, -, -, -, place⟩ := decode_eq_badDf.mp raised
    exact place

/-- Settles O30: the end of the row's run is the step's, handed to the host. -/
theorem stepRunsTheDecodedInstruction : Obligations.StepRunsTheDecodedInstruction := by
  unfold Obligations.StepRunsTheDecodedInstruction
  intro s rest b i c ready row
  rw [step_of_decode_ok ready row]
  cases exec i { s with pending := rest, cur := c } <;> rfl

end Machine

end Sys2Proof
end

section
/-! SUPPORT. The result of DECODE against the closed form of R178, and against bytes appended to the
buffer (R177). -/

namespace Sys2Proof.Machine

/-! ## The closed form -/

/-- R85: the type code is the upper five bits of byte 13. -/
theorem field_typeCode (b : List Byte) : field b 104 5 = BitVec.ofNat 5 (byteAt b 13 / 8) :=
  congrArg (BitVec.ofNat 5) (fbits_byte_high b 13 (by decide))

theorem toNat_typeCode (b : List Byte) : (field b 104 5).toNat = byteAt b 13 / 8 :=
  (field_toNat b 104 5).trans (fbits_byte_high b 13 (by decide))

/-- The payload variant that payload registers show beside a type code (R32). -/
def PayloadRegs.payload (r : PayloadRegs) (tc : BitVec 5) : Payload :=
  match r.kind with
  | .ident => .identification (r.cs.toList.take r.csLen.toNat)
  | .baro => .barometricAltitude r.alt
  | .gnss => .gnssAltitude r.alt
  | .unknown => .unknown tc

/-- The abstract Frame of a decoded frame (R32). -/
def DecodedFrame.frame (f : DecodedFrame) : Frame := ⟨f.df, f.ca, f.addr, f.regs.payload f.tc⟩

/-- The registers show the Frame of the decoded frame that was written to them. -/
theorem frame_writeResult_ok (f : DecodedFrame) (s : State) :
    (writeResult (.ok f) s).frame = some f.frame := rfl

/-- The registers show no Frame after a failure. -/
theorem frame_writeResult_error (x : Failure) (s : State) :
    (writeResult (.error x) s).frame = none :=
  if_neg (failureStatus_ne_ok x)

/-- The text of an identification is the mapped codes without their trailing spaces (R30, R161). -/
theorem payload_identRegs (cs : Eight Byte) (tc : BitVec 5) :
    (identRegs cs).payload tc =
      .identification (cs.toList.take (8 - trailingSpaces cs.toList)) := by
  rw [← trimmedLen_eq, ← toNat_ofNat_trimmedLen cs]
  rfl

/-- A decoded frame carries the type code of byte 13. -/
theorem tc_of_resultOf {b : List Byte} {f : DecodedFrame} (h : resultOf b = .ok f) :
    f.tc = field b 104 5 := by
  rw [resultOf] at h
  split_ifs at h
  cases payload : payloadOf b (field b 104 5) with
  | error x =>
    rw [payload] at h
    cases h
  | ok r =>
    rw [payload] at h
    cases h
    rfl

/-- The Frame of a buffer's own fields, each in byte arithmetic (R83, R84). -/
theorem frame_of_fields (b : List Byte) (r : PayloadRegs) :
    DecodedFrame.frame ⟨field b 72 5, field b 104 5, field b 77 3, field b 80 24, r⟩ =
      ⟨BitVec.ofNat 5 (byteAt b 9 / 8), BitVec.ofNat 3 (byteAt b 9 % 8), addressOf b,
        r.payload (BitVec.ofNat 5 (byteAt b 13 / 8))⟩ := by
  have df : fbits b 72 5 = byteAt b 9 / 8 := fbits_byte_high b 9 (by decide)
  have ca : fbits b 77 3 = byteAt b 9 % 8 := fbits_byte_low b 9 (o := 5) rfl
  rw [DecodedFrame.frame, field_address, field_typeCode, field, field, df, ca]

/-- The payload by ranges of the type code, upper bounds exclusive (R141, R178). -/
theorem payloadOf_typeCode (b : List Byte) : payloadOf b (field b 104 5) =
    if 1 ≤ byteAt b 13 / 8 ∧ byteAt b 13 / 8 < 5 then
      if b.length < 20 then .error .exhausted else .ok (identRegs (charsOf b))
    else if 9 ≤ byteAt b 13 / 8 ∧ byteAt b 13 / 8 < 19 then .ok (baroRegs (rawAltitude b))
    else if 20 ≤ byteAt b 13 / 8 ∧ byteAt b 13 / 8 < 23 then .ok (gnssRegs (rawAltitude b))
    else .ok unknownRegs := by
  rw [payloadOf, classOf, toNat_typeCode, map_ch_codesOf, field_altitude]
  split_ifs <;> rfl

/-- The Frame of the result is the closed form: the tests are the same in the same order, and so are
the fields. -/
theorem closedForm_eq (b : List Byte) : closedForm b = (resultOf b).map DecodedFrame.frame := by
  obtain ⟨first, second, is17, is18⟩ := marker_and_format_iff b
  simp only [closedForm, resultOf, ne_eq, first, second, is17, is18, payloadOf_typeCode]
  split_ifs with short marker format ident cut baro gnss
  · rfl
  · rfl
  · rfl
  · rfl
  · simp only [Except.map, frame_of_fields, payload_identRegs]
  · simp only [Except.map, frame_of_fields]
    rfl
  · simp only [Except.map, frame_of_fields]
    rfl
  · simp only [Except.map, frame_of_fields]
    rfl

/-- Settles O14: the step writes the buffer's result, whose Frame is the closed form. -/
theorem decodeEqualsItsClosedForm : Obligations.DecodeEqualsItsClosedForm := by
  unfold Obligations.DecodeEqualsItsClosedForm
  intro s rest b ready
  obtain ⟨c, run⟩ := step_decode ready
  refine ⟨_, run, ?_⟩
  rw [closedForm_eq, complete_frame, complete_rStatus, complete_rTc]
  cases result : resultOf b with
  | error x => exact ⟨rfl, frame_writeResult_error x _⟩
  | ok f => exact ⟨rfl, frame_writeResult_ok f _, (tc_of_resultOf result).trans (field_typeCode b)⟩

/-! ## Trailing bytes -/

/-- A field inside the buffer is not changed by bytes after it. -/
theorem field_append_bytes {b : List Byte} (extra : List Byte) {n w : Nat}
    (inside : n + w ≤ 8 * b.length) : field (b ++ extra) n w = field b n w :=
  field_congr fun _ _ _ => frameBit_append_left b extra (by omega)

theorem payloadOf_append {b : List Byte} (extra : List Byte) {tc : BitVec 5} (len : 16 ≤ b.length)
    (enough : classOf tc = .ident → 20 ≤ b.length) :
    payloadOf (b ++ extra) tc = payloadOf b tc := by
  rw [payloadOf, payloadOf]
  cases cls : classOf tc with
  | ident =>
    have long : 20 ≤ b.length := enough cls
    have longer : ¬ (b ++ extra).length < 20 := by
      rw [List.length_append]
      omega
    simp (disch := omega) only [if_neg longer, if_neg (Nat.not_lt.mpr long), codesOf,
      field_append_bytes]
  | baro | gnss => simp (disch := omega) only [field_append_bytes]
  | unknown => rfl

/-- Bytes after the least length of a frame's class do not change its result (R177). -/
theorem resultOf_append {b : List Byte} (extra : List Byte) (len : 16 ≤ b.length)
    (enough : classOf (field b 104 5) = .ident → 20 ≤ b.length) :
    resultOf (b ++ extra) = resultOf b := by
  have longer : ¬ (b ++ extra).length < 16 := by
    rw [List.length_append]
    omega
  simp (disch := omega) only [resultOf, if_neg longer, if_neg (Nat.not_lt.mpr len),
    field_append_bytes, payloadOf_append extra len enough]

/-- Settles O21: both buffers have the same result. -/
theorem trailingBytesAreIgnored : Obligations.TrailingBytesAreIgnored := by
  unfold Obligations.TrailingBytesAreIgnored
  intro s u rest rest' b extra first second long
  have enough : classOf (field b 104 5) = .ident → 20 ≤ b.length := by
    intro ident
    have range := (classOf_ranges _).1.mp ident
    rw [toNat_typeCode] at range
    exact long.resolve_right fun ⟨_, other⟩ => other range
  obtain ⟨c, run⟩ := step_decode first
  obtain ⟨d, run'⟩ := step_decode second
  rw [resultOf_append extra (by omega) enough] at run'
  exact ⟨_, _, run, run', sameResult_writeResult _ _ _⟩

end Sys2Proof.Machine
end

section
/-! SUPPORT. DECODE of a buffer as one stage, its row and then its payload: the result and the cursor
depend on the buffer alone (R176). -/

namespace Sys2Proof

/-- Where a stage leaves the cursor, whether it succeeds or not. -/
def Stage.cursor {α : Type} : Stage α → Cursor
  | .ok _ c => c
  | .raise _ c => c

@[simp] theorem Stage.cursor_ok {α : Type} (a : α) (c : Cursor) : (Stage.ok a c).cursor = c := rfl

@[simp] theorem Stage.cursor_raise {α : Type} (x : Failure) (c : Cursor) :
    (Stage.raise x c : Stage α).cursor = c := rfl

@[simp] theorem Stage.cursor_andThen_ok {α β : Type} (r : Stage α) (f : α → β) :
    (r.andThen fun a c => .ok (f a) c).cursor = r.cursor := by
  cases r <;> rfl

namespace Machine

/-- The payload decoder that a row runs (R143 to R148). -/
def payloadStage (i : Instr) (b : List Byte) (c : Cursor) : Stage PayloadRegs :=
  match i.cls with
  | .ident => payloadIdent b c
  | .baro => payloadBaro b c
  | .gnss => payloadGnss b c
  | .unknown => .ok unknownRegs c

/-- DECODE of a buffer: the row, then its payload (R173). -/
def frameStage (b : List Byte) : Stage DecodedFrame :=
  (Sys2Proof.decode b).andThen fun i c =>
  (payloadStage i b c).andThen fun r c => .ok ⟨i.df, i.tc, i.head.ca, i.head.addr, r⟩ c

/-- The end of DECODE put into the state. -/
def finishFrame (r : Stage DecodedFrame) (s : State) : State :=
  finishStage r (fun f => writeResult (.ok f)) s

/-- A row over a readable buffer ends as its payload decoder does. -/
theorem exec_payloadStage {i : Instr} {s : State} {b : List Byte} (buffer : s.frameBytes = some b) :
    exec i s = .next (finishStage (payloadStage i b s.cur)
      (writeOk i.df i.tc i.head.ca i.head.addr) s) := by
  rw [exec_eq, payloadStage]
  cases i.cls with
  | ident | baro | gnss => exact runPayload_eq buffer
  | unknown => rfl

/-- DECODE of a readable buffer ends as the buffer's stage does. -/
theorem decodeFrame_frameStage {s : State} {b : List Byte} (buffer : s.frameBytes = some b) :
    decodeFrame s = .next (finishFrame (frameStage b) s) := by
  rw [decodeFrame_eq buffer, frameStage]
  cases Sys2Proof.decode b with
  | raise x c => rfl
  | ok i c =>
    refine (exec_payloadStage (s := { s with cur := c }) buffer).trans ?_
    rw [Stage.andThen_ok]
    cases payloadStage i b c <;> rfl

/-- The step that decodes ends as the buffer's stage does. -/
theorem step_frameStage {s : State} {rest : List Command} {b : List Byte}
    (ready : Ready s .decode rest b) :
    step s = .next (complete (finishFrame (frameStage b) { s with pending := rest })) := by
  rw [step_cons ready.pending, runCommand, execDecode, if_neg (by simp [ready.notHalted]),
    decodeFrame_frameStage (s := { s with pending := rest }) ready.buffer, thenRun_next]

/-- The registers that the end of DECODE is written to do not depend on what the state held. -/
theorem sameResult_finishFrame (r : Stage DecodedFrame) (s u : State) :
    SameResult (complete (finishFrame r s)) (complete (finishFrame r u)) := by
  cases r <;> exact ⟨rfl, rfl, rfl, rfl, rfl, rfl, rfl, rfl, rfl⟩

theorem finishFrame_cur (r : Stage DecodedFrame) (s : State) : (finishFrame r s).cur = r.cursor := by
  cases r <;> rfl

/-- The longest payload ends at the last bit of byte 19, and a cut one before it. -/
theorem payloadStage_cursor_le (i : Instr) {b : List Byte} (len : 16 ≤ b.length) :
    (payloadStage i b (.ofPos 109)).cursor.pos ≤ 160 := by
  rw [payloadStage]
  cases i.cls with
  | ident =>
    by_cases short : b.length < 20
    · rw [payloadIdent_cut (j := (8 * b.length - 112) / 6) (by omega) (by omega) (by omega),
        Stage.cursor_raise, Cursor.pos_ofPos]
      omega
    · simp [payloadIdent_ok (Nat.le_of_not_lt short)]
  | baro => simp [payloadBaro_ok len]
  | gnss => simp [payloadGnss_ok len]
  | unknown => simp

/-- DECODE passes at most 160 bits (R176). -/
theorem frameStage_cursor_le (b : List Byte) : (frameStage b).cursor.pos ≤ 160 := by
  rw [frameStage, decode_eq]
  split_ifs with short
  · simp
  · simp
  · simp
  · rw [Stage.andThen_ok, Stage.cursor_andThen_ok]
    exact payloadStage_cursor_le _ (Nat.le_of_not_lt short)

theorem SameResult.frame_eq {s t : State} (h : SameResult s t) : s.frame = t.frame := by
  obtain ⟨status, df, ca, addr, tc, kind, cs, csLen, alt⟩ := h
  simp only [State.frame, State.callsignText, status, df, ca, addr, tc, kind, cs, csLen, alt]

/-- A DECODE leaves the block ready for another one over the same buffer. -/
theorem ready_of_step_decode {s t : State} {c : Command} {rest : List Command} {b : List Byte}
    (ready : Ready s .decode (c :: rest) b) (h : step s = .next t) : Ready t c rest b := by
  obtain ⟨fb, rLen, -, halted, -, pending, -⟩ :=
    (step_decode_ends ready.pending ready.notHalted h).keeps
  refine ⟨pending, halted.trans ready.notHalted, ?_⟩
  rw [State.frameBytes, fb, rLen]
  exact ready.buffer

/-- Settles O19: every DECODE of the buffer ends as the buffer's stage does. -/
theorem decodeIsAFunctionOfTheBuffer : Obligations.DecodeIsAFunctionOfTheBuffer := by
  unfold Obligations.DecodeIsAFunctionOfTheBuffer
  intro s u rest rest' b first second
  have run := step_frameStage first
  refine ⟨_, _, run, step_frameStage second, sameResult_finishFrame _ _ _, ?_, ?_, ?_⟩
  · rw [complete_cur, complete_cur, finishFrame_cur, finishFrame_cur]
  · rw [complete_cur, finishFrame_cur]
    exact frameStage_cursor_le b
  · rintro rfl
    have again := sameResult_finishFrame (frameStage b)
    exact ⟨_, step_frameStage (ready_of_step_decode first run), again _ _, (again _ _).frame_eq⟩

end Machine

end Sys2Proof
end

section
/-! SUPPORT. Progress: which commands always answer a next state, and that DECODE does over a buffer
whose bytes are all written (R173, R210). -/

namespace Sys2Proof.Machine

theorem execLoad_answers (bytes : List Byte) (s : State) : ∃ t, execLoad bytes s = .next t := by
  unfold execLoad
  split_ifs <;> exact ⟨_, rfl⟩

/-- DECODE answers when every byte below `R_LEN` has a value. -/
theorem execDecode_answers {s : State} {b : List Byte} (buffer : s.frameBytes = some b) :
    ∃ t, execDecode s = .next t := by
  unfold execDecode
  split_ifs
  · exact ⟨_, rfl⟩
  · obtain ⟨c, run⟩ := decodeFrame_resultOf buffer
    rw [run]
    exact ⟨_, rfl⟩

theorem execUpdate_answers (s : State) : ∃ t, execUpdate s = .next t := by
  unfold execUpdate
  split_ifs <;> exact ⟨_, rfl⟩

theorem execLookup_answers (a : BitVec 24) (s : State) : ∃ t, execLookup a s = .next t := by
  unfold execLookup
  split_ifs <;> exact ⟨_, rfl⟩

theorem execRender_answers (s : State) : ∃ t, execRender s = .next t := by
  unfold execRender
  split_ifs <;> exact ⟨_, rfl⟩

/-- A PROCESS that is not refused decodes the bytes it has just loaded, whatever stood in the buffer
before. -/
theorem execProcess_answers (bytes : List Byte) (s : State) :
    ∃ t, execProcess bytes s = .next t := by
  unfold execProcess
  split_ifs with halted oversized
  · exact ⟨_, rfl⟩
  · exact ⟨_, rfl⟩
  · have loaded : execLoad bytes s = .next (complete (s.withFrame bytes)) := by
      rw [execLoad, if_neg halted, if_neg oversized]
    obtain ⟨d, decoded⟩ := execDecode_answers (s := complete (s.withFrame bytes))
      (State.frameBytes_withFrame s bytes)
    rw [loaded, thenRun_next, decoded, thenRun_next]
    split_ifs
    · exact execUpdate_answers d
    · exact ⟨d, rfl⟩

/-- Every command answers a next state when the buffer is readable. -/
theorem runCommand_answers (c : Command) {s : State} {b : List Byte}
    (buffer : s.frameBytes = some b) : ∃ t, runCommand c s = .next t := by
  cases c with
  | load bytes => exact execLoad_answers bytes s
  | decode => exact execDecode_answers buffer
  | update => exact execUpdate_answers s
  | lookup a => exact execLookup_answers a s
  | render => exact execRender_answers s
  | process bytes => exact execProcess_answers bytes s
  | reset => exact ⟨_, rfl⟩

/-- Settles O53: the invariant makes the buffer readable. -/
theorem noStepStops : Obligations.NoStepStops := by
  unfold Obligations.NoStepStops
  intro s inv
  cases next : s.pending with
  | nil => exact ⟨s, step_nil next⟩
  | cons c rest =>
    obtain ⟨b, buffer⟩ := State.frameBytes_isSome inv.buffer.written
    rw [step_cons next]
    exact runCommand_answers c (s := { s with pending := rest }) buffer

end Sys2Proof.Machine
end

section
/-! SUPPORT. UPDATE: what its step answers in each case of R186, that a second one changes nothing
(R194), and that a canonical table never refuses a new address (R191). -/

namespace Sys2Proof.Machine

/-! ## The table body of UPDATE -/

/-- The model's field replacement is the one the statements write in registers (R186). -/
theorem updatedEntry_eq_entryAfter {s : State} (known : s.rKind ≠ .unknown) (e : Entry) :
    updatedEntry s e = entryAfter s e := by
  cases kind : s.rKind with
  | unknown => exact absurd kind known
  | ident | baro | gnss => simp [updatedEntry, entryAfter, kind, State.callsignText]

theorem updateTable_noop {cap : Nat} {s : State} (h : s.rStatus ≠ .ok ∨ s.rKind = .unknown) :
    updateTable cap s = { s with rUpd := .noop } := by
  unfold updateTable
  rcases h with notOk | unknown
  · exact if_pos notOk
  · rw [if_pos unknown, ite_self]

section known
variable {cap : Nat} {s : State} (ok : s.rStatus = .ok) (known : s.rKind ≠ .unknown)
include ok known

theorem updateTable_present {e : Entry} (present : s.table.get s.rAddr = some e) :
    updateTable cap s =
      { s with table := s.table.set s.rAddr (entryAfter s e), rUpd := .done } := by
  simp [updateTable, ok, known, present, updatedEntry_eq_entryAfter known]

theorem updateTable_new (absent : s.table.get s.rAddr = none) (room : s.table.length ≠ cap) :
    updateTable cap s =
      { s with table := s.table.set s.rAddr (entryAfter s .default), rUpd := .done } := by
  simp [updateTable, ok, known, absent, room, updatedEntry_eq_entryAfter known]

theorem updateTable_full (absent : s.table.get s.rAddr = none) (full : s.table.length = cap) :
    updateTable cap s = { s with rUpd := .full } := by
  simp [updateTable, ok, known, absent, full]

end known

theorem Table.get_set_self (t : Table) (a : BitVec 24) (e : Entry) :
    (t.set a e).get a = some e := by
  rw [Table.get_set, if_pos rfl]

theorem Table.get_set_other (t : Table) {a x : BitVec 24} (e : Entry) (h : x ≠ a) :
    (t.set a e).get x = t.get x := by
  rw [Table.get_set, if_neg h]

@[simp] theorem updateTable_halted (cap : Nat) (s : State) :
    (updateTable cap s).halted = s.halted := by
  obtain ⟨tbl, u, e⟩ := updateTable_frame cap s
  rw [e]

/-- UPDATE neither reads nor writes format, capability, type code and the host's side. -/
theorem updateTable_unread (cap : Nat) (s : State) (df tc : BitVec 5) (ca : BitVec 3)
    (p : List Command) (r : Reply) :
    updateTable cap { s with rDf := df, rCa := ca, rTc := tc, pending := p, reply := r } =
      { updateTable cap s with rDf := df, rCa := ca, rTc := tc, pending := p, reply := r } := by
  simp only [updateTable]
  cases s.table.get s.rAddr with
  | some e => split_ifs <;> rfl
  | none => split_ifs <;> rfl

/-- The field an entry takes from the registers is already there (R194). -/
theorem entryAfter_entryAfter (s : State) (e : Entry) :
    entryAfter s (entryAfter s e) = entryAfter s e := by
  unfold entryAfter
  split_ifs <;> rfl

/-- Setting an entry and updating it again by the same registers changes nothing more. -/
theorem updateTable_after_set {cap : Nat} {s : State} (ok : s.rStatus = .ok)
    (known : s.rKind ≠ .unknown) (e : Entry) :
    updateTable cap { s with table := s.table.set s.rAddr (entryAfter s e), rUpd := .done } =
      { s with table := s.table.set s.rAddr (entryAfter s e), rUpd := .done } := by
  have again := updateTable_present (cap := cap)
    (s := { s with table := s.table.set s.rAddr (entryAfter s e), rUpd := .done }) ok known
    (Table.get_set_self ..)
  rw [again, Table.set_set]
  exact congrArg (fun f => { s with table := s.table.set s.rAddr f, rUpd := .done })
    (entryAfter_entryAfter s e)

theorem updateTable_idem (cap : Nat) (s : State) :
    updateTable cap (updateTable cap s) = updateTable cap s := by
  rcases updateTable_cases cap s with ⟨noFrame, e⟩ | ⟨ok, known, absent, full, e⟩ |
    ⟨ok, known, f, _, e⟩ <;> rw [e]
  · exact updateTable_noop noFrame
  · exact updateTable_full ok known absent full
  · rw [updatedEntry_eq_entryAfter known]
    exact updateTable_after_set ok known f

/-! ## The step -/

/-- A halted block refuses every command but RESET (R219). -/
theorem runCommand_halted {c : Command} {s : State} (halted : s.halted = true)
    (notReset : c ≠ .reset) : runCommand c s = .next (refuse s) := by
  cases c with
  | load | decode | update | lookup | render | process => exact if_pos halted
  | reset => exact absurd rfl notReset

theorem step_update {s : State} {rest : List Command} (next : s.pending = .update :: rest)
    (running : s.halted = false) :
    step s = .next { updateTable Config.tableCap s with pending := rest, reply := .done } := by
  have ran : runCommand .update { s with pending := rest } =
      .next (complete (updateTable Config.tableCap { s with pending := rest })) :=
    if_neg (by simp [running])
  have unread := updateTable_unread Config.tableCap s s.rDf s.rTc s.rCa rest s.reply
  rw [step_cons next, ran, unread]
  obtain ⟨tbl, u, e⟩ := updateTable_frame Config.tableCap s
  rw [e]
  rfl

/-- Settles O34: the four cases of the table body, put into the step. -/
theorem updateFollowsItsCases : Obligations.UpdateFollowsItsCases := by
  unfold Obligations.UpdateFollowsItsCases
  intro s rest next
  refine ⟨fun halted => ?_, fun running => ⟨_, step_update next running, ?_, fun noFrame => ?_,
    fun ok known => ⟨fun absent full => ?_, fun absent room => ?_, fun e present => ?_⟩⟩⟩
  · rw [step_cons next]
    exact runCommand_halted (s := { s with pending := rest }) halted (by decide)
  · obtain ⟨tbl, u, e⟩ := updateTable_frame Config.tableCap s
    rw [e]
  · rw [updateTable_noop noFrame]
    exact ⟨rfl, rfl⟩
  · rw [updateTable_full (cap := Config.tableCap) ok known absent full]
    exact ⟨rfl, rfl⟩
  · rw [updateTable_new (cap := Config.tableCap) ok known absent room]
    exact ⟨rfl, Table.get_set_self .., fun a other => Table.get_set_other _ _ other⟩
  · rw [updateTable_present ok known present]
    exact ⟨rfl, Table.get_set_self .., fun a other => Table.get_set_other _ _ other⟩

/-- Settles O35: an `Unknown` frame is a case of `UPD_NOOP`. -/
theorem unknownFrameCreatesNoEntry : Obligations.UnknownFrameCreatesNoEntry := by
  unfold Obligations.UnknownFrameCreatesNoEntry
  intro s rest next running _ unknown
  refine ⟨_, step_update next running, ?_⟩
  rw [updateTable_noop (.inr unknown)]
  exact ⟨rfl, id⟩

/-- Settles O37: the second UPDATE runs on the result of the first, and the unread registers pass
through it. -/
theorem repeatedUpdateChangesNothing : Obligations.RepeatedUpdateChangesNothing := by
  unfold Obligations.RepeatedUpdateChangesNothing
  refine ⟨fun s rest next running => ?_, fun s rest df tc ca next running => ?_⟩
  · have again := updateTable_unread Config.tableCap (updateTable Config.tableCap s)
      (updateTable Config.tableCap s).rDf (updateTable Config.tableCap s).rTc
      (updateTable Config.tableCap s).rCa (.update :: rest) .done
    rw [updateTable_idem] at again
    refine ⟨_, _, step_update next running, step_update rfl ?_, ?_⟩
    · rw [updateTable_halted, running]
    · rw [again]
      exact ⟨rfl, rfl⟩
  · have unread := updateTable_unread Config.tableCap s df tc ca s.pending s.reply
    refine ⟨_, _, step_update next running, step_update next running, ?_⟩
    exact (congrArg State.table unread :)

/-! ## Room for every address -/

/-- A canonical table that lacks an address has fewer than 2^24 entries (R191). -/
theorem Table.length_lt_of_get_eq_none {t : Table} {a : BitVec 24} (wf : t.wf = true)
    (absent : t.get a = none) : t.length < Config.tableCap := by
  have notListed : a ∉ t.map Prod.fst := by
    intro listed
    obtain ⟨⟨_, e⟩, mem, rfl⟩ := List.mem_map.mp listed
    simp [Table.get_of_mem wf mem] at absent
  have addrs : (a :: t.map Prod.fst).Nodup := List.nodup_cons.mpr ⟨notListed, Table.addrs_nodup wf⟩
  have count : Fintype.card (BitVec 24) = 2 ^ 24 := by
    rw [Fintype.card_congr BitVec.equivFin.toEquiv, Fintype.card_fin]
  have bound := addrs.length_le_card
  rw [count, List.length_cons, List.length_map] at bound
  exact bound

/-- Over a canonical table a valid frame that is not `Unknown` always gets its entry. -/
theorem step_update_done {s : State} {rest : List Command} (wf : s.table.wf = true)
    (next : s.pending = .update :: rest) (running : s.halted = false) (ok : s.rStatus = .ok)
    (known : s.rKind ≠ .unknown) :
    ∃ t, step s = .next t ∧ t.rUpd = .done ∧
      t.table = s.table.set s.rAddr (entryAfter s ((s.table.get s.rAddr).getD .default)) := by
  refine ⟨_, step_update next running, ?_⟩
  cases found : s.table.get s.rAddr with
  | some e =>
    rw [updateTable_present ok known found]
    exact ⟨rfl, rfl⟩
  | none =>
    rw [updateTable_new ok known found (Table.length_lt_of_get_eq_none wf found).ne]
    exact ⟨rfl, rfl⟩

/-- Settles O38: a canonical table has room, and any capacity has the cases of R186. -/
theorem tableIsNeverFull : Obligations.TableIsNeverFull := by
  unfold Obligations.TableIsNeverFull
  refine ⟨fun s rest table next running => ?_, fun cap s ok known =>
    ⟨updateTable_full ok known, fun e present => ?_⟩⟩
  · by_cases noFrame : s.rStatus ≠ .ok ∨ s.rKind = .unknown
    · refine ⟨_, step_update next running, ?_⟩
      rw [updateTable_noop noFrame]
      exact nofun
    · obtain ⟨ok, known⟩ := not_or.mp noFrame
      obtain ⟨t, run, done, _⟩ := step_update_done table.wf next running (not_not.mp ok) known
      exact ⟨t, run, by simp [done]⟩
  · rw [updateTable_present ok known present]
    exact ⟨rfl, Table.get_set_self ..⟩

/-- Two updates of an address the table lacks fill its one new entry from both frames. -/
theorem step_two_updates {s u : State} {rest rest' : List Command} (wf : s.table.wf = true)
    (next : s.pending = .update :: rest) (next' : u.pending = .update :: rest')
    (running : s.halted = false) (running' : u.halted = false) (ok : s.rStatus = .ok)
    (ok' : u.rStatus = .ok) (same : s.rAddr = u.rAddr) (absent : s.table.get s.rAddr = none)
    (known : s.rKind ≠ .unknown) (known' : u.rKind ≠ .unknown) :
    ∃ t v, step s = .next t ∧ step { u with table := t.table } = .next v ∧
      v.table.get s.rAddr = some (entryAfter u (entryAfter s .default)) ∧
      v.table.length = s.table.length + 1 := by
  obtain ⟨t, first, _, one⟩ := step_update_done wf next running ok known
  have tableWf : t.table.wf = true := one ▸ Table.set_wf _ _ wf
  obtain ⟨v, second, _, both⟩ := step_update_done (s := { u with table := t.table }) tableWf
    next' running' ok' known'
  have final : v.table =
      s.table.set s.rAddr (entryAfter u (entryAfter s .default)) := by
    simp only [both, one, absent, ← same, Table.get_set_self, Table.set_set, Option.getD_some,
      Option.getD_none]
    rfl
  refine ⟨t, v, first, second, ?_, ?_⟩
  · rw [final, Table.get_set_self]
  · rw [final, Table.length_set _ _ wf, absent]
    rfl

theorem entryAfter_ident {s : State} (ident : s.rKind = .ident) (e : Entry) :
    entryAfter s e = ⟨s.callsignText, e.altitude⟩ := if_pos ident

theorem entryAfter_other {s : State} (other : s.rKind ≠ .ident) (e : Entry) :
    entryAfter s e = ⟨e.callsign, s.rAlt⟩ := if_neg other

theorem Kind.ne_of_altitude {k : Kind} (h : k = .baro ∨ k = .gnss) : k ≠ .ident ∧ k ≠ .unknown := by
  rcases h with rfl | rfl <;> decide

/-- Settles O36: each of the two frames sets its own field, whichever comes first. -/
theorem twoUpdatesFillBothFields : Obligations.TwoUpdatesFillBothFields := by
  unfold Obligations.TwoUpdatesFillBothFields
  intro s u rest rest' table next next' running running' ok ok' same absent
  have both := step_two_updates table.wf next next' running running' ok ok' same absent
  refine ⟨fun ident altitude => ?_, fun altitude ident => ?_⟩
  · obtain ⟨other, known⟩ := Kind.ne_of_altitude altitude
    have filled := both (by simp [ident]) known
    rwa [entryAfter_other other, entryAfter_ident ident] at filled
  · obtain ⟨other, known⟩ := Kind.ne_of_altitude altitude
    have filled := both known (by simp [ident])
    rwa [entryAfter_ident ident, entryAfter_other other] at filled

end Sys2Proof.Machine
end

section
/-! SUPPORT. LOOKUP and RENDER: what each step answers (R195, R196), and that the rendered list is
the visible entries sorted by altitude, with any order of ties (R197 to R199). -/

namespace Sys2Proof.Machine

/-! ## The steps -/

/-- Settles O40: LOOKUP runs on the state with the command taken. -/
theorem lookupReturnsTheEntry : Obligations.LookupReturnsTheEntry := by
  unfold Obligations.LookupReturnsTheEntry
  intro s a rest next running
  rw [step_cons next]
  exact if_neg (by simp [running])

theorem step_render {s : State} {rest : List Command} (next : s.pending = .render :: rest)
    (running : s.halted = false) :
    step s = .next { s with
      pending := rest
      reply := .records (renderTable (Config.tieRank s.renders) s.table)
      renders := s.renders + 1 } := by
  rw [step_cons next]
  exact if_neg (by simp [running])

/-- Settles O43: both lists hold the visible records, each in its own order of ties. -/
theorem renderIsReadOnly : Obligations.RenderIsReadOnly := by
  unfold Obligations.RenderIsReadOnly
  intro s rest next running
  exact ⟨_, _, _, _, step_render next running, step_render rfl running, rfl, rfl,
    (sortRecords_perm _ _).trans (sortRecords_perm _ _).symm, rfl, rfl⟩

/-! ## The records of a table -/

theorem Table.get_eq_some_iff {t : Table} (wf : t.wf = true) {a : BitVec 24} {e : Entry} :
    t.get a = some e ↔ (a, e) ∈ t :=
  ⟨Table.mem_of_get, Table.get_of_mem wf⟩

theorem Entry.visible_iff (e : Entry) :
    e.visible = true ↔ e.callsign ≠ [] ∨ e.altitude ≠ 0 := by
  simp [Entry.visible]

/-- The record that RENDER gives of an entry (R196). -/
def recordOf (p : BitVec 24 × Entry) : Record := ⟨p.1, p.2.callsign, p.2.altitude⟩

theorem visibleRecords_eq (t : Table) :
    visibleRecords t = (t.filter fun p => p.2.visible).map recordOf := by
  induction t with
  | nil => rfl
  | cons p t ih =>
    obtain ⟨a, e⟩ := p
    simp only [visibleRecords, ih, List.filter_cons]
    split <;> rfl

theorem addr_comp_recordOf : Record.addr ∘ recordOf = Prod.fst := rfl

/-- A canonical table gives at most one record of an address (R197 (a)). -/
theorem nodup_addr_visibleRecords {t : Table} (wf : t.wf = true) :
    ((visibleRecords t).map Record.addr).Nodup := by
  rw [visibleRecords_eq, List.map_map, addr_comp_recordOf]
  exact (Table.addrs_nodup wf).sublist (List.filter_sublist.map Prod.fst)

/-- The records are those of the visible entries (R197 (a), R198). -/
theorem mem_visibleRecords {t : Table} (wf : t.wf = true) (r : Record) :
    r ∈ visibleRecords t ↔
      ∃ e, t.get r.addr = some e ∧ (e.callsign ≠ [] ∨ e.altitude ≠ 0) ∧
        r.callsign = e.callsign ∧ r.altitude = e.altitude := by
  obtain ⟨a, text, alt⟩ := r
  simp only [visibleRecords_eq, List.mem_map, List.mem_filter, Entry.visible_iff,
    Table.get_eq_some_iff wf, recordOf, Record.mk.injEq]
  constructor
  · rintro ⟨⟨_, e⟩, ⟨mem, visible⟩, rfl, rfl, rfl⟩
    exact ⟨e, mem, visible, rfl, rfl⟩
  · rintro ⟨e, mem, visible, rfl, rfl⟩
    exact ⟨(a, e), ⟨mem, visible⟩, rfl, rfl, rfl⟩

/-! ## Sorting by altitude and rank -/

section rank
variable (rank : BitVec 24 → Nat)

/-- A record stands before another when its pair of altitude and rank is lexicographically no
greater. -/
theorem Record.before_iff (r q : Record) : r.before rank q = true ↔
    r.altitude.toNat < q.altitude.toNat ∨
      r.altitude.toNat = q.altitude.toNat ∧ rank r.addr ≤ rank q.addr := by
  simp [Record.before, BitVec.toNat_eq]

theorem insertRecord_eq_orderedInsert (r : Record) (l : List Record) :
    insertRecord rank r l = l.orderedInsert (fun r q => r.before rank q = true) r := by
  induction l with
  | nil => rfl
  | cons q l ih => rw [insertRecord, List.orderedInsert_cons, ih]

/-- The model's sort is the library's insertion sort. -/
theorem sortRecords_eq_insertionSort (l : List Record) :
    sortRecords rank l = l.insertionSort fun r q => r.before rank q = true := by
  induction l with
  | nil => rfl
  | cons r l ih =>
    rw [sortRecords, ih, insertRecord_eq_orderedInsert, List.insertionSort_cons]

theorem pairwise_sortRecords (l : List Record) :
    (sortRecords rank l).Pairwise fun r q => r.before rank q = true := by
  have total : Std.Total fun r q : Record => r.before rank q = true :=
    ⟨fun r q => by simp only [Record.before_iff]; omega⟩
  have trans : IsTrans Record fun r q => r.before rank q = true :=
    ⟨fun r q p => by simp only [Record.before_iff]; omega⟩
  rw [sortRecords_eq_insertionSort]
  exact List.pairwise_insertionSort _ l

/-- The rendered list of a canonical table is correct, whatever the order of ties (R197). -/
theorem renderTable_correct {t : Table} (wf : t.wf = true) :
    RenderCorrect t (renderTable rank t) where
  once := ((sortRecords_perm rank _).map _).nodup_iff.mpr (nodup_addr_visibleRecords wf)
  exact r := (sortRecords_perm rank _).mem_iff.trans (mem_visibleRecords wf r)
  sorted := (pairwise_sortRecords rank _).imp fun before => by
    rw [Record.before_iff] at before
    omega

end rank

/-- Settles O41: the order of ties of this RENDER is one of those that give a correct list. -/
theorem renderedListIsCorrect : Obligations.RenderedListIsCorrect := by
  unfold Obligations.RenderedListIsCorrect
  intro s rest table next running
  exact ⟨_, _, step_render next running, rfl, renderTable_correct _ table.wf⟩

/-! ## Every arrangement of ties (R199) -/

/-- Correct lists of one table hold the same records. -/
theorem RenderCorrect.perm {t : Table} {l m : List Record} (hl : RenderCorrect t l)
    (hm : RenderCorrect t m) : l.Perm m :=
  (List.perm_ext_iff_of_nodup hl.once.of_map hm.once.of_map).mpr fun r =>
    (hl.exact r).trans (hm.exact r).symm

/-- The order of ties that a list shows: an address ranks by its place in it. -/
def rankIn (l : List Record) (a : BitVec 24) : Nat := (l.map Record.addr).idxOf a

theorem pairwise_rankIn {l : List Record} (once : (l.map Record.addr).Nodup) :
    l.Pairwise fun r q => rankIn l r.addr < rankIn l q.addr := by
  rw [List.pairwise_iff_getElem]
  intro i j hi hj lt
  have place (k : Nat) (hk : k < l.length) : rankIn l l[k].addr = k := by
    have found := once.idxOf_getElem k (by simpa using hk)
    rwa [List.getElem_map] at found
  rwa [place i hi, place j hj]

/-- Distinct records of a list have distinct ranks in it. -/
theorem eq_of_rankIn_eq {l : List Record} (once : (l.map Record.addr).Nodup) {r q : Record}
    (hr : r ∈ l) (hq : q ∈ l) (h : rankIn l r.addr = rankIn l q.addr) : r = q :=
  List.inj_on_of_nodup_map once hr hq ((List.idxOf_inj (List.mem_map_of_mem hr)).mp h)

/-- A correct list is in order when ties are ranked by their place in it. -/
theorem RenderCorrect.pairwise_before {t : Table} {l : List Record} (h : RenderCorrect t l) :
    l.Pairwise fun r q => r.before (rankIn l) q = true :=
  (h.sorted.and (pairwise_rankIn h.once)).imp fun ⟨altitude, place⟩ => by
    rw [Record.before_iff]
    omega

/-- Settles O42: ranked by its own places, a correct list and the rendered one are two sorted
arrangements of the same records. -/
theorem everyTieOrderIsPossible : Obligations.EveryTieOrderIsPossible := by
  unfold Obligations.EveryTieOrderIsPossible
  intro tbl l wf correct
  have perm := (renderTable_correct (rankIn l) wf).perm correct
  refine ⟨rankIn l, List.Perm.eq_of_pairwise ?_ (pairwise_sortRecords (rankIn l) _)
    correct.pairwise_before perm⟩
  intro r q hr hq rq qr
  rw [Record.before_iff] at rq qr
  exact eq_of_rankIn_eq correct.once (perm.mem_iff.mp hr) hq (by omega)

end Sys2Proof.Machine
end

section
/-! SUPPORT. LOAD and PROCESS: what LOAD stores and when it is refused (R211, R212), that PROCESS is
LOAD, DECODE and, when wanted, UPDATE (R214); and what a halted block answers (R219). -/

namespace Sys2Proof.Machine

/-- Settles O48: the refusal of a halted block, whose command is taken from the list. -/
theorem haltedBlockServesOnlyReset : Obligations.HaltedBlockServesOnlyReset := by
  unfold Obligations.HaltedBlockServesOnlyReset
  intro s c rest next halted notReset
  rw [step_cons next]
  exact runCommand_halted (s := { s with pending := rest }) halted notReset

/-! ## LOAD -/

theorem execLoad_fits {bytes : List Byte} {s : State} (running : s.halted = false)
    (fits : bytes.length ≤ Config.bufCap) :
    execLoad bytes s = .next (complete (s.withFrame bytes)) := by
  rw [execLoad, if_neg (by simp [running]), if_neg (Nat.not_lt.mpr fits)]

/-- Halted or not, the block refuses bytes that do not fit (R212). -/
theorem execLoad_oversized {bytes : List Byte} (s : State)
    (oversized : Config.bufCap < bytes.length) : execLoad bytes s = .next (refuse s) := by
  rw [execLoad, if_pos oversized, ite_self]

theorem step_load {s : State} {bytes : List Byte} {rest : List Command}
    (next : s.pending = .load bytes :: rest) (running : s.halted = false)
    (fits : bytes.length ≤ Config.bufCap) :
    step s = .next (complete (({ s with pending := rest } : State).withFrame bytes)) := by
  rw [step_cons next]
  exact execLoad_fits (s := { s with pending := rest }) running fits

theorem read_withFrame_lt (s : State) (bytes : List Byte) {k : Nat} (hk : k < bytes.length) :
    (s.withFrame bytes).fb.read k = some bytes[k] := by
  rw [withFrame_fb, Memory.read_writeBytes, if_pos (by omega), Nat.sub_zero,
    List.getElem?_eq_getElem hk]

theorem read_withFrame_ge (s : State) {bytes : List Byte} {a : Nat} (ha : bytes.length ≤ a) :
    (s.withFrame bytes).fb.read a = s.fb.read a := by
  rw [withFrame_fb, Memory.read_writeBytes, if_neg (by omega)]

/-- Settles O44: a running block answers the filled buffer, read below and above its new length. -/
theorem loadWritesItsBytesOnly : Obligations.LoadWritesItsBytesOnly := by
  unfold Obligations.LoadWritesItsBytesOnly
  intro s bytes rest next fits
  refine ⟨fun halted => haltedBlockServesOnlyReset s _ rest next halted nofun, fun running =>
    ⟨_, step_load next running fits, rfl, fun k hk => ?_, fun a ha => ?_, ?_⟩⟩
  · exact read_withFrame_lt _ bytes hk
  · exact read_withFrame_ge { s with pending := rest } ha
  · exact State.frameBytes_withFrame { s with pending := rest } bytes

/-- Settles O45: the refused LOAD only takes its command from the list. -/
theorem oversizedLoadIsRefused : Obligations.OversizedLoadIsRefused := by
  unfold Obligations.OversizedLoadIsRefused
  intro s bytes rest next oversized
  rw [step_cons next]
  exact execLoad_oversized { s with pending := rest } oversized

/-! ## PROCESS -/

theorem updateWanted_iff (s : State) :
    updateWanted s = true ↔ s.rStatus = .ok ∧ s.rKind ≠ .unknown := by
  simp [updateWanted]

/-- A PROCESS that is not refused always answers: it decodes the bytes it has just loaded, and its
end is that of UPDATE or of DECODE. -/
theorem execProcess_fits {bytes : List Byte} {s : State} (running : s.halted = false)
    (fits : bytes.length ≤ Config.bufCap) :
    ∃ d t, execDecode (complete (s.withFrame bytes)) = .next d ∧ execProcess bytes s = .next t ∧
      (updateWanted d = true ∧ execUpdate d = .next t ∨ updateWanted d = false ∧ t = d) := by
  obtain ⟨t, processed⟩ := execProcess_answers bytes s
  rcases execProcess_next processed with ⟨_, halted | oversized⟩ | ⟨_, _, d, decoded, last⟩
  · simp [running] at halted
  · omega
  · exact ⟨d, t, decoded, processed, last⟩

/-- A command of its own runs on the same state as that command inside PROCESS. -/
theorem step_with_pending_self {s : State} {rest : List Command} (kept : s.pending = rest)
    (c : Command) : step { s with pending := c :: rest } = runCommand c s := by
  subst kept
  rfl

/-- Settles O46: the three steps take their commands from the list, which DECODE leaves, and so run
on the states that PROCESS passes through. -/
theorem processIsTheThreeCommands : Obligations.ProcessIsTheThreeCommands := by
  unfold Obligations.ProcessIsTheThreeCommands
  intro s bytes rest next running fits
  obtain ⟨d, t, decoded, processed, last⟩ :=
    execProcess_fits (s := { s with pending := rest }) running fits
  have kept := execDecode_keeps decoded
  refine ⟨_, d, t, step_load rfl running fits, decoded, (step_cons next).trans processed, ?_⟩
  rw [← updateWanted_iff]
  rcases last with ⟨wanted, updated⟩ | ⟨unwanted, rfl⟩
  · exact ⟨fun _ => (step_with_pending_self kept.pending .update).trans updated,
      fun unwanted => absurd wanted unwanted⟩
  · exact ⟨fun wanted => by simp [unwanted] at wanted, fun _ => ⟨rfl, kept.rUpd⟩⟩

end Sys2Proof.Machine
end

section
/-! SUPPORT. Misalignment: an identification row off its place takes it (R234), and no step does,
from any state at all (R235). -/

namespace Sys2Proof

/-- The alignment check raises at a position inside a byte (R115). -/
theorem alignCheck_misaligned {p : Nat} (inside : p % 8 ≠ 0) :
    alignCheck (.ofPos p) = .raise .misalign (.ofPos p) :=
  if_pos inside

namespace Machine

/-! ## The check that fails -/

/-- The category is the first read of an identification, and the check after it finds a cursor that
did not begin three bits before a byte (R115, R143). -/
theorem payloadIdent_misaligned {b : List Byte} {c : Cursor} (off : c.off.val ≠ 5)
    (present : c.pos + 3 ≤ 8 * b.length) :
    payloadIdent b c = .raise .misalign (.ofPos (c.pos + 3)) := by
  have inside : (c.pos + 3) % 8 ≠ 0 := by
    have bound := c.off.isLt
    rw [Cursor.pos]
    omega
  have read : take b 3 c = .ok (field b c.pos 3) (.ofPos (c.pos + 3)) :=
    take_eq_ok.mpr ⟨present, rfl, rfl⟩
  simp only [payloadIdent, category, read, alignCheck_misaligned inside, Stage.andThen_ok,
    Stage.andThen_raise]

/-- Settles O23: the row takes the misalignment of its payload decoder. -/
theorem misalignedIdentificationHalts : Obligations.MisalignedIdentificationHalts := by
  unfold Obligations.MisalignedIdentificationHalts
  intro i s b ident buffer off present
  have run := exec_payloadStage (i := i) buffer
  simp only [payloadStage, ident, payloadIdent_misaligned off present, finishStage] at run
  exact ⟨_, run, rfl, rfl, ⟨rfl, rfl, rfl, rfl, rfl, rfl, rfl, rfl⟩, rfl, rfl, rfl, rfl⟩

/-! ## No step takes it -/

/-- A change of the state that brings in no misalignment: neither `HALTED` nor its status code. -/
structure BringsNoMisalignment (s t : State) : Prop where
  halted : s.halted = false → t.halted = false
  status : s.rStatus ≠ .errMisalign → t.rStatus ≠ .errMisalign

theorem BringsNoMisalignment.of_eq {s t : State} (halted : t.halted = s.halted)
    (status : t.rStatus = s.rStatus) : BringsNoMisalignment s t :=
  ⟨halted.trans, fun clear => status ▸ clear⟩

theorem BringsNoMisalignment.trans {s t u : State} (first : BringsNoMisalignment s t)
    (second : BringsNoMisalignment t u) : BringsNoMisalignment s u :=
  ⟨second.halted ∘ first.halted, second.status ∘ first.status⟩

/-- A DECODE starts its cursor anew, so that every check passes whatever the state held. -/
theorem execDecode_bringsNoMisalignment {s t : State} (h : execDecode s = .next t) :
    BringsNoMisalignment s t := by
  rcases execDecode_next h with ⟨_, rfl⟩ | ⟨running, _⟩
  · exact .of_eq rfl rfl
  · have ends := execDecode_ends running h
    exact ⟨ends.keeps.halted.trans, fun _ => ends.status_ne_errMisalign⟩

theorem execUpdate_bringsNoMisalignment {s t : State} (h : execUpdate s = .next t) :
    BringsNoMisalignment s t := by
  rw [execUpdate_frame h]
  exact .of_eq rfl rfl

theorem execProcess_bringsNoMisalignment {bytes : List Byte} {s t : State}
    (h : execProcess bytes s = .next t) : BringsNoMisalignment s t := by
  rcases execProcess_next h with ⟨rfl, _⟩ | ⟨_, _, d, decoded, last⟩
  · exact .of_eq rfl rfl
  · have loaded : BringsNoMisalignment s (complete (s.withFrame bytes)) := .of_eq rfl rfl
    have afterDecode := loaded.trans (execDecode_bringsNoMisalignment decoded)
    rcases last with ⟨_, updated⟩ | ⟨_, rfl⟩
    · exact afterDecode.trans (execUpdate_bringsNoMisalignment updated)
    · exact afterDecode

theorem runCommand_bringsNoMisalignment {c : Command} {s t : State}
    (h : runCommand c s = .next t) : BringsNoMisalignment s t := by
  cases c with
  | load bytes => rcases execLoad_next h with ⟨rfl, _⟩ | ⟨_, _, rfl⟩ <;> exact .of_eq rfl rfl
  | decode => exact execDecode_bringsNoMisalignment h
  | update => exact execUpdate_bringsNoMisalignment h
  | lookup a => rcases execLookup_next h with ⟨_, rfl⟩ | ⟨_, rfl⟩ <;> exact .of_eq rfl rfl
  | render => rcases execRender_next h with ⟨_, rfl⟩ | ⟨_, rfl⟩ <;> exact .of_eq rfl rfl
  | process bytes => exact execProcess_bringsNoMisalignment h
  | reset =>
    cases h
    exact ⟨fun _ => rfl, fun _ => nofun⟩

/-- Settles O24: an idle step changes nothing, and no command brings in a misalignment. -/
theorem misalignmentIsUnreachable : Obligations.MisalignmentIsUnreachable := by
  unfold Obligations.MisalignmentIsUnreachable
  intro s t h
  cases next : s.pending with
  | nil =>
    rw [step_nil next] at h
    cases h
    exact ⟨id, id⟩
  | cons c rest =>
    rw [step_cons next] at h
    obtain ⟨halted, status⟩ := runCommand_bringsNoMisalignment h
    exact ⟨halted, status⟩

end Machine

end Sys2Proof
end

section
/-! SUPPORT. Failures of DECODE: which one is reported (R238) and what taking it writes (R239); then
the block at reset and at rest (R260, R251). -/

namespace Sys2Proof.Machine

/-! ## The status code -/

/-- The status that stands in `R_STATUS` beside a result of DECODE (R24, R225). -/
def statusOf : Except Failure Frame → Status
  | .ok _ => .ok
  | .error x => failureStatus x

/-- The code by the tests of the closed form (R178): an accepted frame of any class has code 1. -/
theorem code_statusOf_closedForm (b : List Byte) : (statusOf (closedForm b)).code =
    if b.length < 16 then 4
    else if byteAt b 0 ≠ 0x1A ∨ byteAt b 1 ≠ 0x33 then 2
    else if byteAt b 9 / 8 ≠ 17 ∧ byteAt b 9 / 8 ≠ 18 then 3
    else if (1 ≤ byteAt b 13 / 8 ∧ byteAt b 13 / 8 < 5) ∧ b.length < 20 then 4
    else 1 := by
  unfold closedForm
  by_cases ident : 1 ≤ byteAt b 13 / 8 ∧ byteAt b 13 / 8 < 5
  · simp only [ident, true_and, and_self, if_true]
    split_ifs <;> rfl
  · simp only [ident, false_and, if_false]
    split_ifs <;> rfl

/-- Settles O15: the status the step leaves is that of the closed form, whose tests stand in the
order of R238. -/
theorem decodeStatusByPriority : Obligations.DecodeStatusByPriority := by
  unfold Obligations.DecodeStatusByPriority
  intro s rest b ready
  obtain ⟨t, run, ends⟩ := decodeEqualsItsClosedForm s rest b ready
  have status : t.rStatus = statusOf (closedForm b) := by
    cases result : closedForm b with
    | ok f =>
      rw [result] at ends
      exact ends.1
    | error x =>
      rw [result] at ends
      exact ends.1
  refine ⟨t, run, ?_⟩
  rw [← code_statusOf_closedForm, ← status]
  rfl

/-! ## Taking a failure -/

/-- A DECODE step over a buffer that names no row takes its failure, with the cursor where the
failing stage stood. -/
theorem step_of_decode_raise {s : State} {rest : List Command} {b : List Byte} {x : Failure}
    {c : Cursor} (ready : Ready s .decode rest b) (raised : Sys2Proof.decode b = .raise x c) :
    step s = .next (complete (takeFailure x { s with pending := rest, cur := c })) := by
  rw [step_frameStage ready, frameStage, raised]
  rfl

/-- In a block that is not halted the failure entry sets `HALTED` exactly with the status code of a
misalignment (R234). -/
theorem takeFailure_halted_of_running {s : State} (running : s.halted = false) (x : Failure) :
    (takeFailure x s).halted = ((takeFailure x s).rStatus == .errMisalign) := by
  rw [takeFailure_halted, running]
  cases x <;> rfl

theorem failureStatus_mem (x : Failure) :
    failureStatus x ∈ [Status.notAFrame, .errBadDf, .errExhausted, .errMisalign] := by
  cases x <;> decide

/-- Settles O17: a DECODE without a frame took a failure, whose entry is the record written out. -/
theorem failureEntryWritesOnlyTheResult : Obligations.FailureEntryWritesOnlyTheResult := by
  unfold Obligations.FailureEntryWritesOnlyTheResult
  refine ⟨fun s t rest next running h noFrame => ?_, fun s rest b x c ready raised =>
    ⟨_, step_of_decode_raise ready raised, rfl, rfl⟩⟩
  cases step_decode_ends next running h with
  | accepted => exact absurd rfl noFrame
  | rejected x c _ =>
    refine ⟨failureStatus_mem x, ?_⟩
    have halted := takeFailure_halted_of_running
      (s := { s with pending := rest, cur := c }) running x
    rw [complete_rStatus, ← halted]
    rfl

/-! ## Reset and rest -/

/-- Settles O47: RESET writes the state at power-up, but for the host's side. -/
theorem resetRestoresEveryRegister : Obligations.ResetRestoresEveryRegister := by
  unfold Obligations.ResetRestoresEveryRegister
  have zero : FrameRegsZero State.reset := resetStateIsSound.noFrame (by decide)
  exact ⟨⟨rfl, rfl, rfl, rfl, rfl, rfl, zero⟩, fun s rest next =>
    ⟨_, step_cons next, ⟨rfl, rfl, rfl, rfl, rfl, rfl, zero⟩, rfl⟩⟩

/-- Settles O49: the step with no command is idle. -/
theorem idleBlockKeepsItsState : Obligations.IdleBlockKeepsItsState :=
  fun _ idle => step_nil idle

end Sys2Proof.Machine
end
